-- ==== Sys2Proof/Word.lean ====
section
/-! DEFINITION. The word types of the block: register bytes, 16-bit quantities, register offsets and
access words (00_scope.md R7, R8; 30_encoding.md R100). -/

namespace Sys2Proof

/-- A register or buffer byte (20_memory.md R71, R75). -/
abbrev Byte := BitVec 8

/-- A 16-bit quantity: a counter, a length, a buffer address (00_scope.md R7). -/
abbrev Half := BitVec 16

/-- A register offset of the register port (10_state.md R23). -/
abbrev Offset := BitVec 5

/-- A register access word: WE at bit 13, OFF at bits 12:8, D at bits 7:0 (30_encoding.md R100). -/
abbrev AccessWord := BitVec 14

end Sys2Proof
end

