-- ==== Sys2Proof/Syntax.lean ====
section
/-! DEFINITION. The register accesses of the block, one constructor for each row of the opcode table
(30_encoding.md R100, R101). A CTRL command carries the bits its row leaves free (R104), a plain write its
byte, a reserved OP pattern the whole OP byte (R113), since a refused write is recorded with its byte
(60_exceptions.md R344). A read's D field is ignored (R100) and is no operand. -/

namespace Sys2Proof

/-- One register access. -/
inductive Instr where
  /-- Row `rd.ctrl`: `rd CTRL`, offset 0x00 (40_register_interface.md R141). -/
  | rdCtrl
  /-- Row `rd.status`: `rd STATUS`, offset 0x01 (40_register_interface.md R143). -/
  | rdStatus
  /-- Row `rd.data`: `rd DATA`, offset 0x02 (40_register_interface.md R145). -/
  | rdData
  /-- Row `rd.bitrate`: `rd BITRATE`, offset 0x03 (40_register_interface.md R147). -/
  | rdBitrate
  /-- Row `rd.tmr_ctl`: `rd TMR_CTL`, offset 0x04 (40_register_interface.md R149). -/
  | rdTmrCtl
  /-- Row `rd.tmr_cnt_l`: `rd TMR_CNT_L`, offset 0x05 (40_register_interface.md R151). -/
  | rdTmrCntL
  /-- Row `rd.tmr_cnt_h`: `rd TMR_CNT_H`, offset 0x06 (40_register_interface.md R152). -/
  | rdTmrCntH
  /-- Row `rd.rsv_07`: `rd 0x07`, a reserved offset (40_register_interface.md R175). -/
  | rdRsv07
  /-- Row `rd.op`: `rd OP`, offset 0x08 (40_register_interface.md R153). -/
  | rdOp
  /-- Row `rd.seq_stat`: `rd SEQ_STAT`, offset 0x09 (40_register_interface.md R155). -/
  | rdSeqStat
  /-- Row `rd.arg_a`: `rd ARG_A`, offset 0x0A (40_register_interface.md R156). -/
  | rdArgA
  /-- Row `rd.arg_b`: `rd ARG_B`, offset 0x0B (40_register_interface.md R158). -/
  | rdArgB
  /-- Row `rd.arg_m`: `rd ARG_M`, offset 0x0C (40_register_interface.md R160). -/
  | rdArgM
  /-- Row `rd.result`: `rd RESULT`, offset 0x0D (40_register_interface.md R170). -/
  | rdResult
  /-- Row `rd.arg_n_l`: `rd ARG_N_L`, offset 0x0E (40_register_interface.md R162). -/
  | rdArgNL
  /-- Row `rd.arg_n_h`: `rd ARG_N_H`, offset 0x0F (40_register_interface.md R164). -/
  | rdArgNH
  /-- Row `rd.arg_p_l`: `rd ARG_P_L`, offset 0x10 (40_register_interface.md R166). -/
  | rdArgPL
  /-- Row `rd.arg_p_h`: `rd ARG_P_H`, offset 0x11 (40_register_interface.md R168). -/
  | rdArgPH
  /-- Row `rd.cfg_ticks_l`: `rd CFG_TICKS_L`, offset 0x12 (40_register_interface.md R171). -/
  | rdCfgTicksL
  /-- Row `rd.cfg_ticks_h`: `rd CFG_TICKS_H`, offset 0x13 (40_register_interface.md R172). -/
  | rdCfgTicksH
  /-- Row `rd.cfg_retries`: `rd CFG_RETRIES`, offset 0x14 (40_register_interface.md R173). -/
  | rdCfgRetries
  /-- Row `rd.rsv_15`: `rd 0x15`, a reserved offset (40_register_interface.md R175). -/
  | rdRsv15
  /-- Row `rd.rsv_16`: `rd 0x16`, a reserved offset (40_register_interface.md R175). -/
  | rdRsv16
  /-- Row `rd.rsv_17`: `rd 0x17`, a reserved offset (40_register_interface.md R175). -/
  | rdRsv17
  /-- Row `rd.rsv_18`: `rd 0x18`, a reserved offset (40_register_interface.md R175). -/
  | rdRsv18
  /-- Row `rd.rsv_19`: `rd 0x19`, a reserved offset (40_register_interface.md R175). -/
  | rdRsv19
  /-- Row `rd.rsv_1a`: `rd 0x1A`, a reserved offset (40_register_interface.md R175). -/
  | rdRsv1A
  /-- Row `rd.rsv_1b`: `rd 0x1B`, a reserved offset (40_register_interface.md R175). -/
  | rdRsv1B
  /-- Row `rd.rsv_1c`: `rd 0x1C`, a reserved offset (40_register_interface.md R175). -/
  | rdRsv1C
  /-- Row `rd.rsv_1d`: `rd 0x1D`, a reserved offset (40_register_interface.md R175). -/
  | rdRsv1D
  /-- Row `rd.rsv_1e`: `rd 0x1E`, a reserved offset (40_register_interface.md R175). -/
  | rdRsv1E
  /-- Row `rd.rsv_1f`: `rd 0x1F`, a reserved offset (40_register_interface.md R175). -/
  | rdRsv1F
  /-- Row `wr.status`: `wr STATUS, v`, offset 0x01 (40_register_interface.md R144). -/
  | wrStatus (v : Byte)
  /-- Row `wr.data`: `wr DATA, v`, offset 0x02 (40_register_interface.md R146). -/
  | wrData (v : Byte)
  /-- Row `wr.bitrate`: `wr BITRATE, v`, offset 0x03 (40_register_interface.md R148). -/
  | wrBitrate (v : Byte)
  /-- Row `wr.tmr_ctl`: `wr TMR_CTL, v`, offset 0x04 (40_register_interface.md R150). -/
  | wrTmrCtl (v : Byte)
  /-- Row `wr.ro_tmr_cnt_l`: `wr TMR_CNT_L, v`, offset 0x05, a read-only register (40_register_interface.md R174). -/
  | wrRoTmrCntL (v : Byte)
  /-- Row `wr.ro_tmr_cnt_h`: `wr TMR_CNT_H, v`, offset 0x06, a read-only register (40_register_interface.md R174). -/
  | wrRoTmrCntH (v : Byte)
  /-- Row `wr.rsv_07`: `wr 0x07, v`, a reserved offset (40_register_interface.md R176). -/
  | wrRsv07 (v : Byte)
  /-- Row `wr.ro_seq_stat`: `wr SEQ_STAT, v`, offset 0x09, a read-only register (40_register_interface.md R174). -/
  | wrRoSeqStat (v : Byte)
  /-- Row `wr.arg_a`: `wr ARG_A, v`, offset 0x0A (40_register_interface.md R157). -/
  | wrArgA (v : Byte)
  /-- Row `wr.arg_b`: `wr ARG_B, v`, offset 0x0B (40_register_interface.md R159). -/
  | wrArgB (v : Byte)
  /-- Row `wr.arg_m`: `wr ARG_M, v`, offset 0x0C (40_register_interface.md R161). -/
  | wrArgM (v : Byte)
  /-- Row `wr.ro_result`: `wr RESULT, v`, offset 0x0D, a read-only register (40_register_interface.md R174). -/
  | wrRoResult (v : Byte)
  /-- Row `wr.arg_n_l`: `wr ARG_N_L, v`, offset 0x0E (40_register_interface.md R163). -/
  | wrArgNL (v : Byte)
  /-- Row `wr.arg_n_h`: `wr ARG_N_H, v`, offset 0x0F (40_register_interface.md R165). -/
  | wrArgNH (v : Byte)
  /-- Row `wr.arg_p_l`: `wr ARG_P_L, v`, offset 0x10 (40_register_interface.md R167). -/
  | wrArgPL (v : Byte)
  /-- Row `wr.arg_p_h`: `wr ARG_P_H, v`, offset 0x11 (40_register_interface.md R169). -/
  | wrArgPH (v : Byte)
  /-- Row `wr.ro_cfg_ticks_l`: `wr CFG_TICKS_L, v`, offset 0x12, a read-only register (40_register_interface.md R174). -/
  | wrRoCfgTicksL (v : Byte)
  /-- Row `wr.ro_cfg_ticks_h`: `wr CFG_TICKS_H, v`, offset 0x13, a read-only register (40_register_interface.md R174). -/
  | wrRoCfgTicksH (v : Byte)
  /-- Row `wr.ro_cfg_retries`: `wr CFG_RETRIES, v`, offset 0x14, a read-only register (40_register_interface.md R174). -/
  | wrRoCfgRetries (v : Byte)
  /-- Row `wr.rsv_15`: `wr 0x15, v`, a reserved offset (40_register_interface.md R176). -/
  | wrRsv15 (v : Byte)
  /-- Row `wr.rsv_16`: `wr 0x16, v`, a reserved offset (40_register_interface.md R176). -/
  | wrRsv16 (v : Byte)
  /-- Row `wr.rsv_17`: `wr 0x17, v`, a reserved offset (40_register_interface.md R176). -/
  | wrRsv17 (v : Byte)
  /-- Row `wr.rsv_18`: `wr 0x18, v`, a reserved offset (40_register_interface.md R176). -/
  | wrRsv18 (v : Byte)
  /-- Row `wr.rsv_19`: `wr 0x19, v`, a reserved offset (40_register_interface.md R176). -/
  | wrRsv19 (v : Byte)
  /-- Row `wr.rsv_1a`: `wr 0x1A, v`, a reserved offset (40_register_interface.md R176). -/
  | wrRsv1A (v : Byte)
  /-- Row `wr.rsv_1b`: `wr 0x1B, v`, a reserved offset (40_register_interface.md R176). -/
  | wrRsv1B (v : Byte)
  /-- Row `wr.rsv_1c`: `wr 0x1C, v`, a reserved offset (40_register_interface.md R176). -/
  | wrRsv1C (v : Byte)
  /-- Row `wr.rsv_1d`: `wr 0x1D, v`, a reserved offset (40_register_interface.md R176). -/
  | wrRsv1D (v : Byte)
  /-- Row `wr.rsv_1e`: `wr 0x1E, v`, a reserved offset (40_register_interface.md R176). -/
  | wrRsv1E (v : Byte)
  /-- Row `wr.rsv_1f`: `wr 0x1F, v`, a reserved offset (40_register_interface.md R176). -/
  | wrRsv1F (v : Byte)
  /-- Row `wr.ctrl.reserved_low_1`: `wr CTRL` of class RESERVED_LOW_1 (43_bus_primitives.md R234). -/
  | wrCtrlReservedLow1 (int ea sta sto sa en : Bool)
  /-- Row `wr.ctrl.reserved_low_2`: `wr CTRL` of class RESERVED_LOW_2 (43_bus_primitives.md R234). -/
  | wrCtrlReservedLow2 (int ea sta sto sa en : Bool)
  /-- Row `wr.ctrl.reserved_low_3`: `wr CTRL` of class RESERVED_LOW_3 (43_bus_primitives.md R234). -/
  | wrCtrlReservedLow3 (int ea sta sto sa en : Bool)
  /-- Row `wr.ctrl.disable`: `wr CTRL` of class DISABLE (43_bus_primitives.md R233). -/
  | wrCtrlDisable (int ea sta sto sa : Bool)
  /-- Row `wr.ctrl.latch`: `wr CTRL` of class LATCH (43_bus_primitives.md R232). -/
  | wrCtrlLatch (ea sta sto sa : Bool)
  /-- Row `wr.ctrl.transfer`: `wr CTRL` of class TRANSFER (43_bus_primitives.md R230). -/
  | wrCtrlTransfer (ea sa : Bool)
  /-- Row `wr.ctrl.stop`: `wr CTRL` of class STOP (43_bus_primitives.md R227). -/
  | wrCtrlStop (ea sa : Bool)
  /-- Row `wr.ctrl.start`: `wr CTRL` of class START (43_bus_primitives.md R225). -/
  | wrCtrlStart (ea sa : Bool)
  /-- Row `wr.ctrl.reserved_stasto`: `wr CTRL` of class RESERVED_STASTO (43_bus_primitives.md R234). -/
  | wrCtrlReservedStasto (ea sa : Bool)
  /-- Row `op.init`: `wr OP, 0x01`: start the operation (42_configuration.md R201). -/
  | opInit
  /-- Row `op.start`: `wr OP, 0x02`: start the operation (43_bus_primitives.md R250). -/
  | opStart
  /-- Row `op.stop`: `wr OP, 0x03`: start the operation (43_bus_primitives.md R251). -/
  | opStop
  /-- Row `op.restart`: `wr OP, 0x04`: start the operation (43_bus_primitives.md R252). -/
  | opRestart
  /-- Row `op.write_byte`: `wr OP, 0x05`: start the operation (44_byte_transfer.md R281). -/
  | opWriteByte
  /-- Row `op.read_byte`: `wr OP, 0x06`: start the operation (44_byte_transfer.md R282). -/
  | opReadByte
  /-- Row `op.write`: `wr OP, 0x07`: start the operation (45_transactions.md R310). -/
  | opWrite
  /-- Row `op.write_r`: `wr OP, 0x17`: start the operation (45_transactions.md R310). -/
  | opWriteR
  /-- Row `op.read`: `wr OP, 0x08`: start the operation (45_transactions.md R311). -/
  | opRead
  /-- Row `op.read_r`: `wr OP, 0x18`: start the operation (45_transactions.md R311). -/
  | opReadR
  /-- Row `op.delay`: `wr OP, 0x09`: start the operation (41_timing_source.md R185). -/
  | opDelay
  /-- Row `op.reserved_hi_80`: `wr OP, v`, reserved: `v & 0x80 = 0x80` (30_encoding.md R113). -/
  | opReservedHi80 (v : Byte)
  /-- Row `op.reserved_hi_40`: `wr OP, v`, reserved: `v & 0xC0 = 0x40` (30_encoding.md R113). -/
  | opReservedHi40 (v : Byte)
  /-- Row `op.reserved_hi_20`: `wr OP, v`, reserved: `v & 0xE0 = 0x20` (30_encoding.md R113). -/
  | opReservedHi20 (v : Byte)
  /-- Row `op.reserved_opc0`: `wr OP, v`, reserved: `v & 0xEF = 0x00` (30_encoding.md R113). -/
  | opReservedOpc0 (v : Byte)
  /-- Row `op.reserved_opc_ab`: `wr OP, v`, reserved: `v & 0xEE = 0x0A` (30_encoding.md R113). -/
  | opReservedOpcAb (v : Byte)
  /-- Row `op.reserved_opc_cf`: `wr OP, v`, reserved: `v & 0xEC = 0x0C` (30_encoding.md R113). -/
  | opReservedOpcCf (v : Byte)
  /-- Row `op.reserved_r_11`: `wr OP, 0x11`, reserved (30_encoding.md R113). -/
  | opReservedR11
  /-- Row `op.reserved_r_12`: `wr OP, v`, reserved: `v & 0xFE = 0x12` (30_encoding.md R113). -/
  | opReservedR12 (v : Byte)
  /-- Row `op.reserved_r_14`: `wr OP, v`, reserved: `v & 0xFE = 0x14` (30_encoding.md R113). -/
  | opReservedR14 (v : Byte)
  /-- Row `op.reserved_r_16`: `wr OP, 0x16`, reserved (30_encoding.md R113). -/
  | opReservedR16
  /-- Row `op.reserved_r_19`: `wr OP, 0x19`, reserved (30_encoding.md R113). -/
  | opReservedR19
  deriving DecidableEq, Repr

end Sys2Proof
end

