-- ==== Sys2Proof/WellFormed.lean ====
section
/-! DEFINITION. Which terms of `Instr` stand for access words. Every operand is as wide as its field, so
only the reserved OP patterns, which carry the whole OP byte, need a check: the byte is one of the row's
(30_encoding.md R113). -/

namespace Sys2Proof

/-- The check of an instruction, as a Bool. -/
def Instr.wellFormed : Instr → Bool
  | .opReservedHi80 v => v &&& 0x80#8 == 0x80#8
  | .opReservedHi40 v => v &&& 0xC0#8 == 0x40#8
  | .opReservedHi20 v => v &&& 0xE0#8 == 0x20#8
  | .opReservedOpc0 v => v &&& 0xEF#8 == 0x00#8
  | .opReservedOpcAb v => v &&& 0xEE#8 == 0x0A#8
  | .opReservedOpcCf v => v &&& 0xEC#8 == 0x0C#8
  | .opReservedR12 v => v &&& 0xFE#8 == 0x12#8
  | .opReservedR14 v => v &&& 0xFE#8 == 0x14#8
  | .rdCtrl | .rdStatus | .rdData | .rdBitrate | .rdTmrCtl | .rdTmrCntL | .rdTmrCntH | .rdRsv07 | .rdOp
  | .rdSeqStat | .rdArgA | .rdArgB | .rdArgM | .rdResult | .rdArgNL | .rdArgNH | .rdArgPL | .rdArgPH
  | .rdCfgTicksL | .rdCfgTicksH | .rdCfgRetries | .rdRsv15 | .rdRsv16 | .rdRsv17 | .rdRsv18 | .rdRsv19
  | .rdRsv1A | .rdRsv1B | .rdRsv1C | .rdRsv1D | .rdRsv1E | .rdRsv1F | .wrStatus _ | .wrData _
  | .wrBitrate _ | .wrTmrCtl _ | .wrRoTmrCntL _ | .wrRoTmrCntH _ | .wrRsv07 _ | .wrRoSeqStat _
  | .wrArgA _ | .wrArgB _ | .wrArgM _ | .wrRoResult _ | .wrArgNL _ | .wrArgNH _ | .wrArgPL _
  | .wrArgPH _ | .wrRoCfgTicksL _ | .wrRoCfgTicksH _ | .wrRoCfgRetries _ | .wrRsv15 _ | .wrRsv16 _
  | .wrRsv17 _ | .wrRsv18 _ | .wrRsv19 _ | .wrRsv1A _ | .wrRsv1B _ | .wrRsv1C _ | .wrRsv1D _
  | .wrRsv1E _ | .wrRsv1F _ | .wrCtrlReservedLow1 _ _ _ _ _ _ | .wrCtrlReservedLow2 _ _ _ _ _ _
  | .wrCtrlReservedLow3 _ _ _ _ _ _ | .wrCtrlDisable _ _ _ _ _ | .wrCtrlLatch _ _ _ _
  | .wrCtrlTransfer _ _ | .wrCtrlStop _ _ | .wrCtrlStart _ _ | .wrCtrlReservedStasto _ _ | .opInit
  | .opStart | .opStop | .opRestart | .opWriteByte | .opReadByte | .opWrite | .opWriteR | .opRead
  | .opReadR | .opDelay | .opReservedR11 | .opReservedR16 | .opReservedR19 => true

/-- `i` stands for an access word. -/
abbrev Instr.WellFormed (i : Instr) : Prop := i.wellFormed = true

end Sys2Proof
end

