-- ==== Sys2Proof/Decode.lean ====
section
/-! DEFINITION. The decoder of access words, total on the 2^14 words of the register port
(30_encoding.md R101) and refusing by name a number that is none; the encoder; and the fixed bits of each
row of the opcode table. -/

namespace Sys2Proof

/-- A CTRL byte from its fields, `low` being the reserved bits 1:0 (10_state.md R24; 30_encoding.md R104). -/
def ctrlByte (int ea sta sto sa en : Bool) (low : BitVec 2) : Byte :=
  BitVec.ofBool int ++ BitVec.ofBool ea ++ BitVec.ofBool sta ++ BitVec.ofBool sto ++ BitVec.ofBool sa ++
    BitVec.ofBool en ++ low

/-- A read access by its offset. The last arm is offset 0x1F, the only one of five bits left. -/
def decodeRead (off : Offset) : Instr :=
  match off.toNat with
  | 0x00 => .rdCtrl
  | 0x01 => .rdStatus
  | 0x02 => .rdData
  | 0x03 => .rdBitrate
  | 0x04 => .rdTmrCtl
  | 0x05 => .rdTmrCntL
  | 0x06 => .rdTmrCntH
  | 0x07 => .rdRsv07
  | 0x08 => .rdOp
  | 0x09 => .rdSeqStat
  | 0x0A => .rdArgA
  | 0x0B => .rdArgB
  | 0x0C => .rdArgM
  | 0x0D => .rdResult
  | 0x0E => .rdArgNL
  | 0x0F => .rdArgNH
  | 0x10 => .rdArgPL
  | 0x11 => .rdArgPH
  | 0x12 => .rdCfgTicksL
  | 0x13 => .rdCfgTicksH
  | 0x14 => .rdCfgRetries
  | 0x15 => .rdRsv15
  | 0x16 => .rdRsv16
  | 0x17 => .rdRsv17
  | 0x18 => .rdRsv18
  | 0x19 => .rdRsv19
  | 0x1A => .rdRsv1A
  | 0x1B => .rdRsv1B
  | 0x1C => .rdRsv1C
  | 0x1D => .rdRsv1D
  | 0x1E => .rdRsv1E
  | _ => .rdRsv1F

/-- A CTRL command byte by its class, tested in the order of 30_encoding.md R105. -/
def decodeCtrl (v : Byte) : Instr :=
  let int := v.getLsbD 7
  let ea := v.getLsbD 6
  let sta := v.getLsbD 5
  let sto := v.getLsbD 4
  let sa := v.getLsbD 3
  let en := v.getLsbD 2
  if v &&& 0x03#8 = 0x01#8 then .wrCtrlReservedLow1 int ea sta sto sa en
  else if v &&& 0x03#8 = 0x02#8 then .wrCtrlReservedLow2 int ea sta sto sa en
  else if v &&& 0x03#8 = 0x03#8 then .wrCtrlReservedLow3 int ea sta sto sa en
  else if v &&& 0x07#8 = 0x00#8 then .wrCtrlDisable int ea sta sto sa
  else if v &&& 0x87#8 = 0x04#8 then .wrCtrlLatch ea sta sto sa
  else if v &&& 0xB7#8 = 0x84#8 then .wrCtrlTransfer ea sa
  else if v &&& 0xB7#8 = 0x94#8 then .wrCtrlStop ea sa
  else if v &&& 0xB7#8 = 0xA4#8 then .wrCtrlStart ea sa
  else .wrCtrlReservedStasto ea sa

/-- An OP byte, the reserved patterns first, tested in the order of 30_encoding.md R113; the last arm is
0x18, the only byte left. -/
def decodeOp (v : Byte) : Instr :=
  if v &&& 0x80#8 = 0x80#8 then .opReservedHi80 v
  else if v &&& 0xC0#8 = 0x40#8 then .opReservedHi40 v
  else if v &&& 0xE0#8 = 0x20#8 then .opReservedHi20 v
  else if v &&& 0xEF#8 = 0x00#8 then .opReservedOpc0 v
  else if v &&& 0xEE#8 = 0x0A#8 then .opReservedOpcAb v
  else if v &&& 0xEC#8 = 0x0C#8 then .opReservedOpcCf v
  else if v = 0x11#8 then .opReservedR11
  else if v &&& 0xFE#8 = 0x12#8 then .opReservedR12 v
  else if v &&& 0xFE#8 = 0x14#8 then .opReservedR14 v
  else if v = 0x16#8 then .opReservedR16
  else if v = 0x19#8 then .opReservedR19
  else if v = 0x01#8 then .opInit
  else if v = 0x02#8 then .opStart
  else if v = 0x03#8 then .opStop
  else if v = 0x04#8 then .opRestart
  else if v = 0x05#8 then .opWriteByte
  else if v = 0x06#8 then .opReadByte
  else if v = 0x07#8 then .opWrite
  else if v = 0x17#8 then .opWriteR
  else if v = 0x08#8 then .opRead
  else if v = 0x09#8 then .opDelay
  else .opReadR

/-- A write access by its offset and byte; CTRL and OP go on to their bytes (30_encoding.md R101). The
last arm is offset 0x1F, the only one of five bits left. -/
def decodeWrite (off : Offset) (v : Byte) : Instr :=
  match off.toNat with
  | 0x00 => decodeCtrl v
  | 0x08 => decodeOp v
  | 0x01 => .wrStatus v
  | 0x02 => .wrData v
  | 0x03 => .wrBitrate v
  | 0x04 => .wrTmrCtl v
  | 0x05 => .wrRoTmrCntL v
  | 0x06 => .wrRoTmrCntH v
  | 0x07 => .wrRsv07 v
  | 0x09 => .wrRoSeqStat v
  | 0x0A => .wrArgA v
  | 0x0B => .wrArgB v
  | 0x0C => .wrArgM v
  | 0x0D => .wrRoResult v
  | 0x0E => .wrArgNL v
  | 0x0F => .wrArgNH v
  | 0x10 => .wrArgPL v
  | 0x11 => .wrArgPH v
  | 0x12 => .wrRoCfgTicksL v
  | 0x13 => .wrRoCfgTicksH v
  | 0x14 => .wrRoCfgRetries v
  | 0x15 => .wrRsv15 v
  | 0x16 => .wrRsv16 v
  | 0x17 => .wrRsv17 v
  | 0x18 => .wrRsv18 v
  | 0x19 => .wrRsv19 v
  | 0x1A => .wrRsv1A v
  | 0x1B => .wrRsv1B v
  | 0x1C => .wrRsv1C v
  | 0x1D => .wrRsv1D v
  | 0x1E => .wrRsv1E v
  | _ => .wrRsv1F v

/-- WE of an access word. -/
def AccessWord.we (w : AccessWord) : Bool := w.getLsbD 13

/-- OFF of an access word. -/
def AccessWord.off (w : AccessWord) : Offset := w.extractLsb' 8 5

/-- D of an access word. -/
def AccessWord.d (w : AccessWord) : Byte := w.extractLsb' 0 8

/-- The access an access word stands for (30_encoding.md R100, R101). -/
def decode (w : AccessWord) : Instr :=
  if AccessWord.we w then decodeWrite (AccessWord.off w) (AccessWord.d w) else decodeRead (AccessWord.off w)

/-- Why a number is no access word. -/
inductive DecodeRefusal where
  /-- It has a bit set above bit 13; the register port has 14 bits (30_encoding.md R100). -/
  | widerThanAccessWord
  deriving DecidableEq, Repr

/-- The access a number stands for, its bits numbered as R100 numbers them. -/
def decodeNat (w : Nat) : Except DecodeRefusal Instr :=
  if w < 2 ^ 14 then .ok (decode (BitVec.ofNat 14 w)) else .error .widerThanAccessWord

/-- The access read from a word of the opcode table. An access word has one length, so `nbits`, how many
bits of it the table gives, decides nothing (30_encoding.md R127). -/
def decodeTableWord (_nbits w : Nat) : Option Instr :=
  match decodeNat w with
  | .ok i => some i
  | .error _ => none

/-- An access word from its fields (30_encoding.md R100). -/
def accessWord (we : Bool) (off : Offset) (d : Byte) : AccessWord := BitVec.ofBool we ++ off ++ d

/-- A read access, D written as 0 (30_encoding.md R100). -/
def readWord (off : Offset) : AccessWord := accessWord false off 0#8

/-- A write access. -/
def writeWord (off : Offset) (d : Byte) : AccessWord := accessWord true off d

/-- The access word of an instruction (30_encoding.md R100, R104, R112, R113). -/
def encode : Instr → AccessWord
  | .rdCtrl => readWord 0x00#5
  | .rdStatus => readWord 0x01#5
  | .rdData => readWord 0x02#5
  | .rdBitrate => readWord 0x03#5
  | .rdTmrCtl => readWord 0x04#5
  | .rdTmrCntL => readWord 0x05#5
  | .rdTmrCntH => readWord 0x06#5
  | .rdRsv07 => readWord 0x07#5
  | .rdOp => readWord 0x08#5
  | .rdSeqStat => readWord 0x09#5
  | .rdArgA => readWord 0x0A#5
  | .rdArgB => readWord 0x0B#5
  | .rdArgM => readWord 0x0C#5
  | .rdResult => readWord 0x0D#5
  | .rdArgNL => readWord 0x0E#5
  | .rdArgNH => readWord 0x0F#5
  | .rdArgPL => readWord 0x10#5
  | .rdArgPH => readWord 0x11#5
  | .rdCfgTicksL => readWord 0x12#5
  | .rdCfgTicksH => readWord 0x13#5
  | .rdCfgRetries => readWord 0x14#5
  | .rdRsv15 => readWord 0x15#5
  | .rdRsv16 => readWord 0x16#5
  | .rdRsv17 => readWord 0x17#5
  | .rdRsv18 => readWord 0x18#5
  | .rdRsv19 => readWord 0x19#5
  | .rdRsv1A => readWord 0x1A#5
  | .rdRsv1B => readWord 0x1B#5
  | .rdRsv1C => readWord 0x1C#5
  | .rdRsv1D => readWord 0x1D#5
  | .rdRsv1E => readWord 0x1E#5
  | .rdRsv1F => readWord 0x1F#5
  | .wrStatus v => writeWord 0x01#5 v
  | .wrData v => writeWord 0x02#5 v
  | .wrBitrate v => writeWord 0x03#5 v
  | .wrTmrCtl v => writeWord 0x04#5 v
  | .wrRoTmrCntL v => writeWord 0x05#5 v
  | .wrRoTmrCntH v => writeWord 0x06#5 v
  | .wrRsv07 v => writeWord 0x07#5 v
  | .wrRoSeqStat v => writeWord 0x09#5 v
  | .wrArgA v => writeWord 0x0A#5 v
  | .wrArgB v => writeWord 0x0B#5 v
  | .wrArgM v => writeWord 0x0C#5 v
  | .wrRoResult v => writeWord 0x0D#5 v
  | .wrArgNL v => writeWord 0x0E#5 v
  | .wrArgNH v => writeWord 0x0F#5 v
  | .wrArgPL v => writeWord 0x10#5 v
  | .wrArgPH v => writeWord 0x11#5 v
  | .wrRoCfgTicksL v => writeWord 0x12#5 v
  | .wrRoCfgTicksH v => writeWord 0x13#5 v
  | .wrRoCfgRetries v => writeWord 0x14#5 v
  | .wrRsv15 v => writeWord 0x15#5 v
  | .wrRsv16 v => writeWord 0x16#5 v
  | .wrRsv17 v => writeWord 0x17#5 v
  | .wrRsv18 v => writeWord 0x18#5 v
  | .wrRsv19 v => writeWord 0x19#5 v
  | .wrRsv1A v => writeWord 0x1A#5 v
  | .wrRsv1B v => writeWord 0x1B#5 v
  | .wrRsv1C v => writeWord 0x1C#5 v
  | .wrRsv1D v => writeWord 0x1D#5 v
  | .wrRsv1E v => writeWord 0x1E#5 v
  | .wrRsv1F v => writeWord 0x1F#5 v
  | .wrCtrlReservedLow1 int ea sta sto sa en => writeWord 0x00#5 (ctrlByte int ea sta sto sa en 1#2)
  | .wrCtrlReservedLow2 int ea sta sto sa en => writeWord 0x00#5 (ctrlByte int ea sta sto sa en 2#2)
  | .wrCtrlReservedLow3 int ea sta sto sa en => writeWord 0x00#5 (ctrlByte int ea sta sto sa en 3#2)
  | .wrCtrlDisable int ea sta sto sa => writeWord 0x00#5 (ctrlByte int ea sta sto sa false 0#2)
  | .wrCtrlLatch ea sta sto sa => writeWord 0x00#5 (ctrlByte false ea sta sto sa true 0#2)
  | .wrCtrlTransfer ea sa => writeWord 0x00#5 (ctrlByte true ea false false sa true 0#2)
  | .wrCtrlStop ea sa => writeWord 0x00#5 (ctrlByte true ea false true sa true 0#2)
  | .wrCtrlStart ea sa => writeWord 0x00#5 (ctrlByte true ea true false sa true 0#2)
  | .wrCtrlReservedStasto ea sa => writeWord 0x00#5 (ctrlByte true ea true true sa true 0#2)
  | .opInit => writeWord 0x08#5 0x01#8
  | .opStart => writeWord 0x08#5 0x02#8
  | .opStop => writeWord 0x08#5 0x03#8
  | .opRestart => writeWord 0x08#5 0x04#8
  | .opWriteByte => writeWord 0x08#5 0x05#8
  | .opReadByte => writeWord 0x08#5 0x06#8
  | .opWrite => writeWord 0x08#5 0x07#8
  | .opWriteR => writeWord 0x08#5 0x17#8
  | .opRead => writeWord 0x08#5 0x08#8
  | .opReadR => writeWord 0x08#5 0x18#8
  | .opDelay => writeWord 0x08#5 0x09#8
  | .opReservedHi80 v => writeWord 0x08#5 v
  | .opReservedHi40 v => writeWord 0x08#5 v
  | .opReservedHi20 v => writeWord 0x08#5 v
  | .opReservedOpc0 v => writeWord 0x08#5 v
  | .opReservedOpcAb v => writeWord 0x08#5 v
  | .opReservedOpcCf v => writeWord 0x08#5 v
  | .opReservedR11 => writeWord 0x08#5 0x11#8
  | .opReservedR12 v => writeWord 0x08#5 v
  | .opReservedR14 v => writeWord 0x08#5 v
  | .opReservedR16 => writeWord 0x08#5 0x16#8
  | .opReservedR19 => writeWord 0x08#5 0x19#8

/-- The fixed bits of a row of the opcode table: the word's bits under `mask` are `value`. -/
structure Row where
  mask : AccessWord
  value : AccessWord
  deriving DecidableEq, Repr

/-- `w` is one of the row's words. -/
def Row.admits (r : Row) (w : AccessWord) : Bool := w &&& r.mask == r.value

/-- No word is one of both rows': their fixed bits differ where both are fixed. -/
def Row.apart (r q : Row) : Bool := r.value &&& q.mask != q.value &&& r.mask

/-- The row of an instruction, its mask and match columns as the opcode table has them. -/
def Instr.row : Instr → Row
  | .rdCtrl => ⟨0x3F00#14, 0x0000#14⟩
  | .rdStatus => ⟨0x3F00#14, 0x0100#14⟩
  | .rdData => ⟨0x3F00#14, 0x0200#14⟩
  | .rdBitrate => ⟨0x3F00#14, 0x0300#14⟩
  | .rdTmrCtl => ⟨0x3F00#14, 0x0400#14⟩
  | .rdTmrCntL => ⟨0x3F00#14, 0x0500#14⟩
  | .rdTmrCntH => ⟨0x3F00#14, 0x0600#14⟩
  | .rdRsv07 => ⟨0x3F00#14, 0x0700#14⟩
  | .rdOp => ⟨0x3F00#14, 0x0800#14⟩
  | .rdSeqStat => ⟨0x3F00#14, 0x0900#14⟩
  | .rdArgA => ⟨0x3F00#14, 0x0A00#14⟩
  | .rdArgB => ⟨0x3F00#14, 0x0B00#14⟩
  | .rdArgM => ⟨0x3F00#14, 0x0C00#14⟩
  | .rdResult => ⟨0x3F00#14, 0x0D00#14⟩
  | .rdArgNL => ⟨0x3F00#14, 0x0E00#14⟩
  | .rdArgNH => ⟨0x3F00#14, 0x0F00#14⟩
  | .rdArgPL => ⟨0x3F00#14, 0x1000#14⟩
  | .rdArgPH => ⟨0x3F00#14, 0x1100#14⟩
  | .rdCfgTicksL => ⟨0x3F00#14, 0x1200#14⟩
  | .rdCfgTicksH => ⟨0x3F00#14, 0x1300#14⟩
  | .rdCfgRetries => ⟨0x3F00#14, 0x1400#14⟩
  | .rdRsv15 => ⟨0x3F00#14, 0x1500#14⟩
  | .rdRsv16 => ⟨0x3F00#14, 0x1600#14⟩
  | .rdRsv17 => ⟨0x3F00#14, 0x1700#14⟩
  | .rdRsv18 => ⟨0x3F00#14, 0x1800#14⟩
  | .rdRsv19 => ⟨0x3F00#14, 0x1900#14⟩
  | .rdRsv1A => ⟨0x3F00#14, 0x1A00#14⟩
  | .rdRsv1B => ⟨0x3F00#14, 0x1B00#14⟩
  | .rdRsv1C => ⟨0x3F00#14, 0x1C00#14⟩
  | .rdRsv1D => ⟨0x3F00#14, 0x1D00#14⟩
  | .rdRsv1E => ⟨0x3F00#14, 0x1E00#14⟩
  | .rdRsv1F => ⟨0x3F00#14, 0x1F00#14⟩
  | .wrStatus _ => ⟨0x3F00#14, 0x2100#14⟩
  | .wrData _ => ⟨0x3F00#14, 0x2200#14⟩
  | .wrBitrate _ => ⟨0x3F00#14, 0x2300#14⟩
  | .wrTmrCtl _ => ⟨0x3F00#14, 0x2400#14⟩
  | .wrRoTmrCntL _ => ⟨0x3F00#14, 0x2500#14⟩
  | .wrRoTmrCntH _ => ⟨0x3F00#14, 0x2600#14⟩
  | .wrRsv07 _ => ⟨0x3F00#14, 0x2700#14⟩
  | .wrRoSeqStat _ => ⟨0x3F00#14, 0x2900#14⟩
  | .wrArgA _ => ⟨0x3F00#14, 0x2A00#14⟩
  | .wrArgB _ => ⟨0x3F00#14, 0x2B00#14⟩
  | .wrArgM _ => ⟨0x3F00#14, 0x2C00#14⟩
  | .wrRoResult _ => ⟨0x3F00#14, 0x2D00#14⟩
  | .wrArgNL _ => ⟨0x3F00#14, 0x2E00#14⟩
  | .wrArgNH _ => ⟨0x3F00#14, 0x2F00#14⟩
  | .wrArgPL _ => ⟨0x3F00#14, 0x3000#14⟩
  | .wrArgPH _ => ⟨0x3F00#14, 0x3100#14⟩
  | .wrRoCfgTicksL _ => ⟨0x3F00#14, 0x3200#14⟩
  | .wrRoCfgTicksH _ => ⟨0x3F00#14, 0x3300#14⟩
  | .wrRoCfgRetries _ => ⟨0x3F00#14, 0x3400#14⟩
  | .wrRsv15 _ => ⟨0x3F00#14, 0x3500#14⟩
  | .wrRsv16 _ => ⟨0x3F00#14, 0x3600#14⟩
  | .wrRsv17 _ => ⟨0x3F00#14, 0x3700#14⟩
  | .wrRsv18 _ => ⟨0x3F00#14, 0x3800#14⟩
  | .wrRsv19 _ => ⟨0x3F00#14, 0x3900#14⟩
  | .wrRsv1A _ => ⟨0x3F00#14, 0x3A00#14⟩
  | .wrRsv1B _ => ⟨0x3F00#14, 0x3B00#14⟩
  | .wrRsv1C _ => ⟨0x3F00#14, 0x3C00#14⟩
  | .wrRsv1D _ => ⟨0x3F00#14, 0x3D00#14⟩
  | .wrRsv1E _ => ⟨0x3F00#14, 0x3E00#14⟩
  | .wrRsv1F _ => ⟨0x3F00#14, 0x3F00#14⟩
  | .wrCtrlReservedLow1 _ _ _ _ _ _ => ⟨0x3F03#14, 0x2001#14⟩
  | .wrCtrlReservedLow2 _ _ _ _ _ _ => ⟨0x3F03#14, 0x2002#14⟩
  | .wrCtrlReservedLow3 _ _ _ _ _ _ => ⟨0x3F03#14, 0x2003#14⟩
  | .wrCtrlDisable _ _ _ _ _ => ⟨0x3F07#14, 0x2000#14⟩
  | .wrCtrlLatch _ _ _ _ => ⟨0x3F87#14, 0x2004#14⟩
  | .wrCtrlTransfer _ _ => ⟨0x3FB7#14, 0x2084#14⟩
  | .wrCtrlStop _ _ => ⟨0x3FB7#14, 0x2094#14⟩
  | .wrCtrlStart _ _ => ⟨0x3FB7#14, 0x20A4#14⟩
  | .wrCtrlReservedStasto _ _ => ⟨0x3FB7#14, 0x20B4#14⟩
  | .opInit => ⟨0x3FFF#14, 0x2801#14⟩
  | .opStart => ⟨0x3FFF#14, 0x2802#14⟩
  | .opStop => ⟨0x3FFF#14, 0x2803#14⟩
  | .opRestart => ⟨0x3FFF#14, 0x2804#14⟩
  | .opWriteByte => ⟨0x3FFF#14, 0x2805#14⟩
  | .opReadByte => ⟨0x3FFF#14, 0x2806#14⟩
  | .opWrite => ⟨0x3FFF#14, 0x2807#14⟩
  | .opWriteR => ⟨0x3FFF#14, 0x2817#14⟩
  | .opRead => ⟨0x3FFF#14, 0x2808#14⟩
  | .opReadR => ⟨0x3FFF#14, 0x2818#14⟩
  | .opDelay => ⟨0x3FFF#14, 0x2809#14⟩
  | .opReservedHi80 _ => ⟨0x3F80#14, 0x2880#14⟩
  | .opReservedHi40 _ => ⟨0x3FC0#14, 0x2840#14⟩
  | .opReservedHi20 _ => ⟨0x3FE0#14, 0x2820#14⟩
  | .opReservedOpc0 _ => ⟨0x3FEF#14, 0x2800#14⟩
  | .opReservedOpcAb _ => ⟨0x3FEE#14, 0x280A#14⟩
  | .opReservedOpcCf _ => ⟨0x3FEC#14, 0x280C#14⟩
  | .opReservedR11 => ⟨0x3FFF#14, 0x2811#14⟩
  | .opReservedR12 _ => ⟨0x3FFE#14, 0x2812#14⟩
  | .opReservedR14 _ => ⟨0x3FFE#14, 0x2814#14⟩
  | .opReservedR16 => ⟨0x3FFF#14, 0x2816#14⟩
  | .opReservedR19 => ⟨0x3FFF#14, 0x2819#14⟩

end Sys2Proof
end

