-- ==== Sys2Proof/Config.lean ====
section
/-! DEFINITION. What is fixed for one block (the parameters of 00_scope.md R7), what comes from outside it
(the answers of the bus environment, the choice of the agent that moves) and the free values: constants
without a body, of which no proof can know anything. -/

namespace Sys2Proof

/-- The environment's answer to a START command (43_bus_primitives.md R222, `env.start`). -/
inductive StartAnswer where
  | done
  | arbLost
  | busError
  deriving DecidableEq, Repr, Inhabited

/-- The environment's answer to an address or data byte (43_bus_primitives.md R222, `env.tx`). -/
inductive TxAnswer where
  | ack
  | nack
  | arbLost
  deriving DecidableEq, Repr, Inhabited

/-- The environment's answer to a receive command (43_bus_primitives.md R222, `env.rx`). -/
inductive RxAnswer where
  | byte (v : Byte)
  | arbLost
  deriving DecidableEq, Repr, Inhabited

/-- Who takes the next step: the four agents of 00_scope.md R11, the reset input (70_reset_and_hazards.md
R370), or the host writing a byte of BUF directly (20_memory.md R75, R87). -/
inductive Turn where
  | host
  | sequencer
  | engine
  | timer
  | reset
  | bufWrite (a : Half) (v : Byte)
  deriving DecidableEq, Repr, Inhabited

namespace Config

/-- `CPU_CLOCK_HZ` less one (OPEN, a positive integer: 00_scope.md R7). -/
opaque cpuClockHzLessOne : Nat

/-- `TIMER_HZ` less one (OPEN, a positive integer: 00_scope.md R7). -/
opaque timerHzLessOne : Nat

/-- `SETTLE_TICKS`, the length of `init`'s settle delay (OPEN, 0..65535: 00_scope.md R7). -/
opaque settleTicks : Half

/-- `REG_BASE`, where the register space lies in the host's address space (OPEN: 00_scope.md R7). -/
opaque regBase : Nat

/-- `CPU_CLOCK_HZ`. -/
def cpuClockHz : Nat := cpuClockHzLessOne + 1

/-- `TIMER_HZ`. -/
def timerHz : Nat := timerHzLessOne + 1

/-- `WRITE_CHECKS_START`, decided 1 (00_scope.md R7; 45_transactions.md R310). The sequencer's step takes
it as an argument, so that the reference behaviour, 0, is modelled too. -/
def writeChecksStart : Bool := true

/-- The platform address of a register offset (20_memory.md R82). -/
def regAddress (off : Offset) : Nat := regBase + off.toNat

/-- The divisor `16 + 2 * BITRATE * 4^PS` of 42_configuration.md R202. -/
def divisorOf (bitrate : Byte) (ps : BitVec 2) : Nat := 16 + 2 * bitrate.toNat * 4 ^ ps.toNat

/-- `busClockHz` of 42_configuration.md R202, for a divisor. No behaviour depends on it. -/
def busClockHz (divisor : Nat) : Rat := (cpuClockHz : Rat) / (divisor : Rat)

/-- The least length in seconds of a delay of `n` ticks (41_timing_source.md R189). No behaviour
depends on it. -/
def delaySeconds (n : Half) : Rat := (n.toNat : Rat) / (timerHz : Rat)

/-- The `k`-th unspecified byte drawn in a run: any value (10_state.md R63). -/
opaque freeByte : Nat → Byte

/-- The agent that moves where no input says which (00_scope.md R11): any. -/
opaque freeTurn : Nat → Turn

/-- The access the host issues where no input says which: any (30_encoding.md R100). -/
opaque freeAccess : Nat → AccessWord

/-- The environment's answer to a START where no input gives one: any (43_bus_primitives.md R222). -/
opaque freeStart : Nat → StartAnswer

/-- The environment's answer to a sent byte where no input gives one: any (43_bus_primitives.md R222). -/
opaque freeTx : Nat → TxAnswer

/-- The environment's answer to a receive where no input gives one: any (43_bus_primitives.md R222). -/
opaque freeRx : Nat → RxAnswer

end Config

end Sys2Proof
end

