-- ==== Sys2Proof/Machine/State.lean ====
section
/-! DEFINITION. The state of the block, of BUF and of the run's records (10_state.md R20), as plain data,
and the state right after reset (R62). -/

namespace Sys2Proof.Machine

/-- Why a step would stop the machine with a fault: nothing does. The faults of this block are recorded and
the access is ignored, while the machine goes on (60_exceptions.md R340, R344, R349): they are
`FaultReason`, kept in `State.faults`. No read and no BUF access faults (R345). Safe. -/
inductive Fault where
  deriving DecidableEq, Repr

/-- Why an instruction has no next state. -/
inductive Refusal where
  /-- Raised by `exec` alone, in the arm of an instruction without a meaning; no arm is left that does.
  Safe: nothing is claimed of such an instruction. -/
  | notModelled (mnemonic : String)
  deriving DecidableEq, Repr

/-- The faults of the block (60_exceptions.md R345), in the order of its table. -/
inductive FaultReason where
  /-- A reserved CTRL byte (43_bus_primitives.md R234). -/
  | ctrlReserved
  /-- A write to CTRL (but a STOP byte), STATUS, DATA or BITRATE while a command is pending (R345). -/
  | engineBusy
  /-- A host write while an operation runs (60_exceptions.md R348). -/
  | hostWriteBusy
  /-- A reserved OP byte (30_encoding.md R113). -/
  | opReserved
  deriving DecidableEq, Repr

/-- An entry of the fault list: the reason, and the offset and byte of the refused write (60_exceptions.md
R344). -/
structure FaultRecord where
  reason : FaultReason
  off : Offset
  v : Byte
  deriving DecidableEq, Repr

/-- The kind of a START: `S`, or the repeated START `Sr` (00_scope.md R13; 10_state.md R41). -/
inductive StartKind where
  | s
  | sr
  deriving DecidableEq, Repr

/-- An engine command launched and not yet completed (10_state.md R41; `NONE` is `none`). -/
inductive Cmd where
  | start (k : StartKind)
  | addrTx (b : Byte)
  | dataTx (b : Byte)
  | dataRx (ack : Bool)
  deriving DecidableEq, Repr

/-- The acknowledge the block returns after a received byte (43_bus_primitives.md R220). -/
inductive Ack where
  | ack
  | nack
  deriving DecidableEq, Repr

/-- Why a START did not complete as one (43_bus_primitives.md R220). -/
inductive StartFailure where
  | arbLost
  | busError
  deriving DecidableEq, Repr

/-- A bus event (43_bus_primitives.md R220). `started .s` is the event `S`, `started .sr` is `Sr`. -/
inductive Event where
  | started (k : StartKind)
  | startFail (k : StartKind) (c : StartFailure)
  | stop
  | release
  | addr (b : Byte) (r : TxAnswer)
  | tx (b : Byte) (r : TxAnswer)
  | rx (v : Byte) (a : Ack)
  | rxLost (ack : Bool)
  | abort (cmd : Cmd)
  deriving DecidableEq, Repr

/-- `eng.phase` (10_state.md R40). -/
inductive Phase where
  | idle
  | addr
  | mt
  | mr
  | mrHold
  deriving DecidableEq, Repr

/-- The outcome of an operation (10_state.md R61). -/
inductive TransferOutcome where
  | ok
  | failedStart
  | noAck
  deriving DecidableEq, Repr

/-- A byte register that can be unspecified (10_state.md R63): it holds a byte, or each read of it is a
fresh draw. -/
inductive DrawnByte where
  | holds (v : Byte)
  | unspecified
  deriving DecidableEq, Repr

/-- The lines of `start_core` (43_bus_primitives.md R250). -/
inductive StartLine where
  | command
  | status
  | checkStart
  | data
  | transmit
  | addrStatus
  | checkAddr
  | returnOk
  deriving DecidableEq, Repr

/-- The lines of `write_byte_core` (44_byte_transfer.md R281). `arm` and `disarm` are the two steps of its
delay (41_timing_source.md R186). -/
inductive ByteLine where
  | budget
  | data
  | transmit
  | status
  | checkAck
  | spend
  | arm
  | disarm
  | checkExhausted
  deriving DecidableEq, Repr

/-- The lines of `read_byte_core` (44_byte_transfer.md R282). -/
inductive PollLine where
  | budget
  | poll
  | data
  | returnOk
  | spend
  | arm
  | disarm
  | checkExhausted
  deriving DecidableEq, Repr

/-- The lines of `op_write` (45_transactions.md R310). -/
inductive WriteLine where
  | start (l : StartLine)
  | checkStart
  | index
  | fetch
  | byte (l : ByteLine)
  | checkByte
  | next
  | close
  deriving DecidableEq, Repr

/-- The lines of `op_read` (45_transactions.md R311). -/
inductive ReadLine where
  | start (l : StartLine)
  | checkStart
  | index
  | arm
  | poll (l : PollLine)
  | checkByte
  | store
  | next
  | close
  deriving DecidableEq, Repr

/-- `seq.step`: the line the sequencer executes next (10_state.md R47), or `none` where no operation
runs. -/
inductive SeqPos where
  | none
  /-- The lines of `op_init` (42_configuration.md R201). -/
  | initBitrate
  | initStatus
  | initTicks
  | initRetries
  | initArm
  | initDisarm
  /-- `op_start` (43_bus_primitives.md R250). -/
  | start (l : StartLine)
  /-- `op_stop` (43_bus_primitives.md R251). -/
  | stop
  /-- `op_restart` (43_bus_primitives.md R252). -/
  | restart
  /-- `op_writeByte` (44_byte_transfer.md R281). -/
  | writeByte (l : ByteLine)
  /-- `op_readByte` (44_byte_transfer.md R282), and its last line. -/
  | readByte (l : PollLine)
  | readByteEnd
  /-- `op_write` (45_transactions.md R310). -/
  | write (l : WriteLine)
  /-- `op_read` (45_transactions.md R311). -/
  | read (l : ReadLine)
  /-- The two steps of `op_delay` (41_timing_source.md R185, R186). -/
  | delayArm
  | delayDisarm
  deriving DecidableEq, Repr

/-- CTRL (10_state.md R24); its bits 1:0 hold no state (R31). -/
structure Ctrl where
  int : Bool
  ea : Bool
  sta : Bool
  sto : Bool
  sa : Bool
  en : Bool
  deriving DecidableEq, Repr

/-- The engine: its registers and its hidden state (10_state.md R24 to R36, R40, R41). -/
structure Eng where
  ctrl : Ctrl
  /-- STATUS.CODE (R32). -/
  code : BitVec 5
  /-- STATUS.ERR (R33). -/
  err : Bool
  /-- STATUS.PS (R34). -/
  ps : BitVec 2
  /-- DATA (R35, R63). -/
  data : DrawnByte
  /-- BITRATE (R36). -/
  bitrate : Byte
  /-- `eng.phase` (R40). -/
  phase : Phase
  /-- `eng.pending` (R41). -/
  pending : Option Cmd
  /-- The divisor of the bus clock of the last launch (30_encoding.md R106; 42_configuration.md R202, R204). -/
  divisor : Nat
  deriving DecidableEq, Repr

/-- The Timing Source (10_state.md R37, R38, R43). -/
structure Tmr where
  /-- TMR_CTL.RUN. -/
  run : Bool
  /-- TMR_CNT. -/
  cnt : Half
  /-- `tmr.hlatch`. -/
  hlatch : Byte
  /-- `tmr.target`. -/
  target : Half
  /-- `tmr.match`. -/
  matched : Bool
  deriving DecidableEq, Repr

/-- The argument registers (10_state.md R52 to R56). -/
structure Args where
  a : Byte
  b : Byte
  m : Byte
  n : Half
  p : Half
  deriving DecidableEq, Repr

/-- BusConfig's retry fields (10_state.md R58, R59). -/
structure Cfg where
  ticks : Half
  retries : Byte
  deriving DecidableEq, Repr

/-- The sequencer: SEQ_STAT, the latched operation and its locals (10_state.md R44 to R47, R51). -/
structure Seq where
  /-- SEQ_STAT.BUSY, that is `seq.busy` (R44). -/
  busy : Bool
  /-- SEQ_STAT.OUTCOME (R51). -/
  outcome : TransferOutcome
  /-- `seq.op`, and the latched arguments `seq.A` to `seq.R` (R45). -/
  op : BitVec 4
  a : Byte
  b : Byte
  m : Byte
  n : Half
  p : Half
  r : Bool
  /-- `seq.c`, the retry counter (R46). -/
  c : Byte
  /-- `seq.i`, the byte index (R46). -/
  i : Half
  /-- `seq.o`, the outcome of a sub-operation (R46). -/
  o : TransferOutcome
  /-- `seq.s`, a status code read (R46). -/
  sc : Byte
  /-- `seq.v`, a byte (R46). -/
  v : Byte
  /-- `seq.exhausted` (R46). -/
  exhausted : Bool
  /-- `seq.step` (R47). -/
  pos : SeqPos
  deriving DecidableEq, Repr

/-- What comes from outside the block, the model's own field: the choices and answers still given, oldest
first. Where a list is empty, the choice is a free value of Config, numbered by `draws`. -/
structure Env where
  /-- The agents that move next (00_scope.md R11). -/
  turns : List Turn
  /-- The accesses the host issues next (00_scope.md R11; 20_memory.md R84). -/
  accesses : List AccessWord
  /-- The answers to the next START commands (43_bus_primitives.md R222). -/
  starts : List StartAnswer
  /-- The answers to the next bytes sent. -/
  txs : List TxAnswer
  /-- The answers to the next receives. -/
  rxs : List RxAnswer
  /-- How many free values were taken. -/
  draws : Nat
  deriving DecidableEq, Repr

/-- A memory: the bytes that differ from what an unlisted address reads as, addresses strictly rising
(the canonical form `Memory.wf`). -/
abbrev Memory := List Host.Cell

/-- The state of the block, with BUF, the records of the run and what comes from outside. -/
structure State where
  eng : Eng
  tmr : Tmr
  args : Args
  cfg : Cfg
  /-- RESULT (10_state.md R57, R63). -/
  result : DrawnByte
  seq : Seq
  /-- BUF, outside the block (20_memory.md R75). -/
  buf : Memory
  /-- The bus event history, oldest first (10_state.md R48). -/
  events : List Event
  /-- The fault list, oldest first (10_state.md R49). -/
  faults : List FaultRecord
  /-- The register port's read data: the byte the last read returned (00_scope.md R16; 30_encoding.md
  R100). -/
  readData : Byte
  env : Env
  deriving DecidableEq, Repr

/-- The engine at reset (10_state.md R62). The divisor is that of BITRATE 0 and PS 0 (70_reset_and_hazards.md
R372). -/
def Eng.reset : Eng where
  ctrl := ⟨false, false, false, false, false, false⟩
  code := 0x1F#5
  err := false
  ps := 0#2
  data := .unspecified
  bitrate := 0x00#8
  phase := .idle
  pending := none
  divisor := 16

/-- The Timing Source at reset (10_state.md R62). -/
def Tmr.reset : Tmr where
  run := false
  cnt := 0#16
  hlatch := 0#8
  target := 0#16
  matched := false

/-- The sequencer at reset (10_state.md R62). The locals `c` to `exhausted` are unspecified there; their
values here are the model's (DESIGN CHOICE, log entry 7). -/
def Seq.reset : Seq where
  busy := false
  outcome := .ok
  op := 0#4
  a := 0#8
  b := 0#8
  m := 0#8
  n := 0#16
  p := 0#16
  r := false
  c := 0#8
  i := 0#16
  o := .ok
  sc := 0#8
  v := 0#8
  exhausted := false
  pos := .none

/-- Nothing given from outside: every choice is free (DESIGN CHOICE, log entry 5). -/
def Env.reset : Env where
  turns := []
  accesses := []
  starts := []
  txs := []
  rxs := []
  draws := 0

/-- The machine right after reset, at the start of a run (10_state.md R62, R48, R49; 70_reset_and_hazards.md
R370). BUF lists nothing (log entry 8); `readData` is the model's choice (log entry 6). -/
def State.reset : State where
  eng := Eng.reset
  tmr := Tmr.reset
  args := ⟨0#8, 0#8, 0#8, 0#16, 0#16⟩
  cfg := ⟨0#16, 0#8⟩
  result := .unspecified
  seq := Seq.reset
  buf := []
  events := []
  faults := []
  readData := 0#8
  env := Env.reset

end Sys2Proof.Machine
end

