-- ==== Sys2Proof/Machine/Ops.lean ====
section
/-! DEFINITION. The named operations over the state: memory, the primitives of 00_scope.md R10 (`emit`,
`raise Fault`, `draw`), and what is taken from outside. -/

namespace Sys2Proof.Machine

/-- What an address that a memory does not list reads as (DESIGN CHOICE, log entry 8; 20_memory.md R75
leaves BUF's content at the start of a run free). -/
def Memory.unlisted : Byte := 0x00#8

/-- The byte at an address. -/
def Memory.read : Memory → Nat → Byte
  | [], _ => Memory.unlisted
  | (b, x) :: m, a => if b = a then x else Memory.read m a

/-- The memory with `v` at `a`, in canonical form. -/
def Memory.write : Memory → Nat → Byte → Memory
  | [], a, v => if v = Memory.unlisted then [] else [(a, v)]
  | (b, x) :: m, a, v =>
    if a < b then (if v = Memory.unlisted then (b, x) :: m else (a, v) :: (b, x) :: m)
    else if a = b then (if v = Memory.unlisted then m else (a, v) :: m)
    else (b, x) :: Memory.write m a v

/-- Every address of the memory lies above `lo`, addresses rise strictly and are BUF addresses, and no
byte is what an unlisted address reads as. -/
def Memory.wfAbove : Nat → Memory → Bool
  | _, [] => true
  | lo, (b, x) :: m => decide (lo ≤ b) && decide (b < 2 ^ 16) && (x != Memory.unlisted) && Memory.wfAbove (b + 1) m

/-- The canonical form of a memory. -/
def Memory.wf (m : Memory) : Bool := Memory.wfAbove 0 m

/-- `MemRead(a, 1)` (20_memory.md R76). -/
def State.memRead (s : State) (a : Half) : Byte := Memory.read s.buf a.toNat

/-- `MemWrite(a, 1, v)` (20_memory.md R76). -/
def State.memWrite (s : State) (a : Half) (v : Byte) : State :=
  { s with buf := Memory.write s.buf a.toNat v }

/-- `emit e` (00_scope.md R10): the event is appended to the bus event history. -/
def State.emit (e : Event) (s : State) : State := { s with events := s.events ++ [e] }

/-- `raise Fault(reason)` (60_exceptions.md R344): the one way this block takes an error. It sets
STATUS.ERR and records the refused write. No control is transferred and no state is saved, so nothing
returns from it (R349); the host clears ERR by a STATUS write (40_register_interface.md R144). -/
def State.raise (reason : FaultReason) (off : Offset) (v : Byte) (s : State) : State :=
  { s with
    eng := { s.eng with err := true }
    faults := s.faults ++ [⟨reason, off, v⟩] }

/-- The state after one more free value was taken. -/
def State.drawn (s : State) : State := { s with env := { s.env with draws := s.env.draws + 1 } }

/-- A draw of any byte (10_state.md R63). -/
def State.drawByte (s : State) : Byte × State := (Config.freeByte s.env.draws, s.drawn)

/-- A read of a byte register that can be unspecified: what it holds, or a fresh draw (10_state.md R63). -/
def State.readDrawn (d : DrawnByte) (s : State) : Byte × State :=
  match d with
  | .holds v => (v, s)
  | .unspecified => s.drawByte

/-- The byte a read access returns to the host (30_encoding.md R100). -/
def State.returnByte (b : Byte) (s : State) : State := { s with readData := b }

/-- STATUS.CODE set to that of a status code (10_state.md R32: `sc = {CODE, 0b000}`). -/
def State.setCode (sc : Byte) (s : State) : State :=
  { s with eng := { s.eng with code := sc.extractLsb' 3 5 } }

/-- CTRL.INT set or cleared (10_state.md R25). -/
def State.setInt (b : Bool) (s : State) : State :=
  { s with eng := { s.eng with ctrl := { s.eng.ctrl with int := b } } }

/-- `eng.phase` set (43_bus_primitives.md R221). -/
def State.setPhase (p : Phase) (s : State) : State := { s with eng := { s.eng with phase := p } }

/-- `eng.pending` set (10_state.md R41). -/
def State.setPending (c : Option Cmd) (s : State) : State := { s with eng := { s.eng with pending := c } }

/-- DATA set (10_state.md R35). -/
def State.setData (d : DrawnByte) (s : State) : State := { s with eng := { s.eng with data := d } }

/-- `seq.step` set (10_state.md R47). -/
def State.goto (p : SeqPos) (s : State) : State := { s with seq := { s.seq with pos := p } }

/-- The agent that moves next: the first one given, else a free choice (00_scope.md R11). -/
def State.turn (s : State) : Turn :=
  match s.env.turns with
  | t :: _ => t
  | [] => Config.freeTurn s.env.draws

/-- The state after the choice of the agent was taken. -/
def State.afterTurn (s : State) : State :=
  match s.env.turns with
  | _ :: ts => { s with env := { s.env with turns := ts } }
  | [] => s.drawn

/-- The host's next access: the first one given, else a free choice. -/
def State.access (s : State) : AccessWord :=
  match s.env.accesses with
  | w :: _ => w
  | [] => Config.freeAccess s.env.draws

/-- The state after the host's access was taken. -/
def State.afterAccess (s : State) : State :=
  match s.env.accesses with
  | _ :: ws => { s with env := { s.env with accesses := ws } }
  | [] => s.drawn

/-- `draw env.start(k)` (43_bus_primitives.md R222). -/
def State.startAnswer (s : State) : StartAnswer :=
  match s.env.starts with
  | x :: _ => x
  | [] => Config.freeStart s.env.draws

/-- The state after that draw. -/
def State.afterStart (s : State) : State :=
  match s.env.starts with
  | _ :: xs => { s with env := { s.env with starts := xs } }
  | [] => s.drawn

/-- `draw env.tx(b)` (43_bus_primitives.md R222). -/
def State.txAnswer (s : State) : TxAnswer :=
  match s.env.txs with
  | x :: _ => x
  | [] => Config.freeTx s.env.draws

/-- The state after that draw. -/
def State.afterTx (s : State) : State :=
  match s.env.txs with
  | _ :: xs => { s with env := { s.env with txs := xs } }
  | [] => s.drawn

/-- `draw env.rx(a)` (43_bus_primitives.md R222). -/
def State.rxAnswer (s : State) : RxAnswer :=
  match s.env.rxs with
  | x :: _ => x
  | [] => Config.freeRx s.env.draws

/-- The state after that draw. -/
def State.afterRx (s : State) : State :=
  match s.env.rxs with
  | _ :: xs => { s with env := { s.env with rxs := xs } }
  | [] => s.drawn

end Sys2Proof.Machine
end

