-- ==== Sys2Proof/Machine/Operands.lean ====
section
/-! DEFINITION. Operands: how bytes and 16-bit quantities are taken apart and put together, and the
transformations the operations make (30_encoding.md R102, R107). -/

namespace Sys2Proof.Machine

/-- Bits 7:0 of a 16-bit quantity, at the lower offset (20_memory.md R78). -/
def lowByte (x : Half) : Byte := x.extractLsb' 0 8

/-- Bits 15:8 of a 16-bit quantity, at the higher offset (20_memory.md R78). -/
def highByte (x : Half) : Byte := x.extractLsb' 8 8

/-- `x` with bits 7:0 replaced (40_register_interface.md R163, R167). -/
def withLow (x : Half) (v : Byte) : Half := highByte x ++ v

/-- `x` with bits 15:8 replaced (40_register_interface.md R165, R169). -/
def withHigh (x : Half) (v : Byte) : Half := v ++ lowByte x

/-- The normalised prescaler, as the byte `init` writes to STATUS (42_configuration.md R201, R203). -/
def prescalerByte (b : Byte) : Byte := b &&& 0x03#8

/-- The address byte of `read`: the base address plus 1 modulo 256 (45_transactions.md R312). -/
def readAddress (a : Byte) : Byte := a + 1#8

/-- The BUF address of byte `i` of a buffer at `p`, modulo 2^16 (20_memory.md R77). -/
def bufAddress (p i : Half) : Half := p + i

/-- The offset of CTRL (10_state.md R23). -/
def offCtrl : Offset := 0x00#5

/-- The offset of STATUS. -/
def offStatus : Offset := 0x01#5

/-- The offset of DATA. -/
def offData : Offset := 0x02#5

/-- The offset of BITRATE. -/
def offBitrate : Offset := 0x03#5

/-- The offset of OP. -/
def offOp : Offset := 0x08#5

/-- `setStart()` (30_encoding.md R107). -/
def cmdStart : Byte := 0xA4#8

/-- `setStop()` (30_encoding.md R107). -/
def cmdStop : Byte := 0x94#8

/-- The RESTART arm (30_encoding.md R107). -/
def cmdRestartArm : Byte := 0x24#8

/-- "triggers transmission" (30_encoding.md R107). -/
def cmdTransmit : Byte := 0x84#8

/-- `armAck()` (30_encoding.md R107). -/
def cmdRecvAck : Byte := 0xCC#8

/-- `armNack()` (30_encoding.md R107). -/
def cmdRecvNack : Byte := 0xC4#8

end Sys2Proof.Machine
end

