-- ==== Sys2Proof/Machine/Flags.lean ====
section
/-! DEFINITION. The registers read as bytes, the fields of CTRL and STATUS, the status codes and the sets
of them that the operations test (10_state.md R24, R32, R37, R51, R61; 30_encoding.md R104, R120, R121). -/

namespace Sys2Proof.Machine

/-- What a read of CTRL returns (40_register_interface.md R141). -/
def ctrlValue (s : State) : Byte :=
  ctrlByte s.eng.ctrl.int s.eng.ctrl.ea s.eng.ctrl.sta s.eng.ctrl.sto s.eng.ctrl.sa s.eng.ctrl.en 0#2

/-- What a read of STATUS returns (40_register_interface.md R143). -/
def statusValue (s : State) : Byte := s.eng.code ++ BitVec.ofBool s.eng.err ++ s.eng.ps

/-- The status code `sc = STATUS & 0xF8` (10_state.md R32). -/
def statusCode (s : State) : Byte := statusValue s &&& 0xF8#8

/-- What a read of TMR_CTL returns: CLR and bits 7:2 read 0 (40_register_interface.md R149). -/
def tmrCtlValue (s : State) : Byte := 0#7 ++ BitVec.ofBool s.tmr.run

/-- The encoding of an outcome (10_state.md R61). -/
def TransferOutcome.bits : TransferOutcome → BitVec 2
  | .ok => 0b00#2
  | .failedStart => 0b01#2
  | .noAck => 0b10#2

/-- What a read of SEQ_STAT returns (40_register_interface.md R155). -/
def seqStatValue (s : State) : Byte := 0#5 ++ s.seq.outcome.bits ++ BitVec.ofBool s.seq.busy

/-- The CTRL field store of an accepted write: EA, STA, STO, SA and EN as written
(40_register_interface.md R142). -/
def storeCtrl (v : Byte) (s : State) : State :=
  { s with
    eng := { s.eng with
      ctrl := { s.eng.ctrl with
        ea := v.getLsbD 6, sta := v.getLsbD 5, sto := v.getLsbD 4, sa := v.getLsbD 3, en := v.getLsbD 2 } } }

/-- The ACK selection of a launching CTRL byte: both EA and SA (44_byte_transfer.md R274). -/
def ackSelected (v : Byte) : Bool := v.getLsbD 6 && v.getLsbD 3

/-- The classes of a CTRL byte (30_encoding.md R104). -/
inductive CtrlClass where
  | reservedLow
  | disable
  | latch
  | transfer
  | stop
  | start
  | reservedStasto
  deriving DecidableEq, Repr

/-- The class of a CTRL byte, tested in the order of 30_encoding.md R105. -/
def ctrlClass (v : Byte) : CtrlClass :=
  if v &&& 0x03#8 ≠ 0x00#8 then .reservedLow
  else if v &&& 0x07#8 = 0x00#8 then .disable
  else if v &&& 0x87#8 = 0x04#8 then .latch
  else if v &&& 0xB7#8 = 0x84#8 then .transfer
  else if v &&& 0xB7#8 = 0x94#8 then .stop
  else if v &&& 0xB7#8 = 0xA4#8 then .start
  else .reservedStasto

/-- BUS_ERROR (30_encoding.md R120). -/
def scBusError : Byte := 0x00#8

/-- START_TX. -/
def scStartTx : Byte := 0x08#8

/-- REP_START_TX. -/
def scRepStartTx : Byte := 0x10#8

/-- ADDR_W_ACK. -/
def scAddrWAck : Byte := 0x18#8

/-- ADDR_W_NACK. -/
def scAddrWNack : Byte := 0x20#8

/-- DATA_TX_ACK. -/
def scDataTxAck : Byte := 0x28#8

/-- DATA_TX_NACK. -/
def scDataTxNack : Byte := 0x30#8

/-- ARB_LOST. -/
def scArbLost : Byte := 0x38#8

/-- ADDR_R_ACK. -/
def scAddrRAck : Byte := 0x40#8

/-- ADDR_R_NACK. -/
def scAddrRNack : Byte := 0x48#8

/-- DATA_RX_ACK. -/
def scDataRxAck : Byte := 0x50#8

/-- DATA_RX_NACK. -/
def scDataRxNack : Byte := 0x58#8

/-- CMD_ERROR. -/
def scCmdError : Byte := 0xF0#8

/-- NO_INFO. -/
def scNoInfo : Byte := 0xF8#8

/-- The values `sc` takes (30_encoding.md R120). -/
def statusCodes : List Byte :=
  [scBusError, scStartTx, scRepStartTx, scAddrWAck, scAddrWNack, scDataTxAck, scDataTxNack, scArbLost,
    scAddrRAck, scAddrRNack, scDataRxAck, scDataRxNack, scCmdError, scNoInfo]

/-- START_OK (30_encoding.md R121). -/
def startOk (sc : Byte) : Bool := sc == scStartTx || sc == scRepStartTx

/-- ADDR_ACK (30_encoding.md R121). -/
def addrAck (sc : Byte) : Bool := sc == scAddrWAck || sc == scAddrRAck

/-- TX_ACK (30_encoding.md R121). -/
def txAck (sc : Byte) : Bool := sc == scDataTxAck

/-- RX_DONE (30_encoding.md R121). -/
def rxDone (sc : Byte) : Bool := sc == scDataRxAck || sc == scDataRxNack

end Sys2Proof.Machine
end

