-- ==== Sys2Proof/Machine/Engine.lean ====
section
/-! DEFINITION. The engine and its six sub-blocks (43_bus_primitives.md R235): the commands launched by CTRL
writes, and their completion together with an answer of the bus environment. -/

namespace Sys2Proof.Machine

/-- The rate of a launch, read from BITRATE and PS in the step of the accepted CTRL write of class TRANSFER, STOP or
START that it is (30_encoding.md R106; 10_state.md R34, R36; 42_configuration.md R202, R204). That a TRANSFER which
ends at once as a CMD_ERROR reads it too is DEDUCED from R106 (log entry 9). -/
def latchRate (s : State) : State :=
  { s with eng := { s.eng with divisor := Config.divisorOf s.eng.bitrate s.eng.ps } }

/-- `launch(cmd)` (43_bus_primitives.md R224). The rate is read by `latchRate` in the same step. -/
def launch (cmd : Cmd) (s : State) : State := ((s.setInt false).setCode scNoInfo).setPending (some cmd)

/-- The kind of the START that a START command generates (43_bus_primitives.md R225). -/
def startKind (s : State) : StartKind := if s.eng.phase = .idle then .s else .sr

/-- `launch_start()` (43_bus_primitives.md R225). -/
def launchStart (s : State) : State := launch (.start (startKind s)) s

/-- `cmd_error()` (43_bus_primitives.md R231). -/
def cmdError (s : State) : State := (s.setInt true).setCode scCmdError

/-- `launch_transfer(v)` (43_bus_primitives.md R230). The byte to send is DATA now; where DATA is
unspecified, reading it is a draw (10_state.md R63), and DATA holds the byte from the completion on (log entry 4). -/
def launchTransfer (v : Byte) (s : State) : State :=
  match s.eng.phase with
  | .addr =>
    let (b, s) := s.readDrawn s.eng.data
    launch (.addrTx b) s
  | .mt =>
    let (b, s) := s.readDrawn s.eng.data
    launch (.dataTx b) s
  | .mr => launch (.dataRx (ackSelected v)) s
  | .idle => cmdError s
  | .mrHold => cmdError s

/-- The engine lets go of the bus with an event, if it owned it; the code is NO_INFO afterwards. The common
part of `stop_cmd()` and `disable()` (43_bus_primitives.md R227, R233). -/
def leaveBus (e : Event) (s : State) : State :=
  let s := if s.eng.phase = .idle then s else s.emit e
  ((s.setPhase .idle).setInt false).setCode scNoInfo

/-- CTRL.STO cleared (10_state.md R28). -/
def clearSto (s : State) : State :=
  { s with eng := { s.eng with ctrl := { s.eng.ctrl with sto := false } } }

/-- `stop_cmd()` (43_bus_primitives.md R227). -/
def stopCmd (s : State) : State := clearSto (leaveBus .stop s)

/-- `disable()` (43_bus_primitives.md R233). -/
def disableEngine (s : State) : State := leaveBus .release s

/-- DATA after a receive was given up: unspecified (43_bus_primitives.md R228; 10_state.md R63). A command
that is no receive leaves DATA. -/
def spoilData (cmd : Cmd) (s : State) : State :=
  match cmd with
  | .dataRx _ => s.setData .unspecified
  | .start _ => s
  | .addrTx _ => s
  | .dataTx _ => s

/-- `abort_stop(v)` for the pending command `cmd` (43_bus_primitives.md R228). -/
def abortStop (cmd : Cmd) (v : Byte) (s : State) : State :=
  let s := (s.emit (.abort cmd)).emit .stop
  let s := clearSto (storeCtrl v (s.setPending none))
  spoilData cmd (((s.setInt false).setCode scNoInfo).setPhase .idle)

/-- `complete_start(k)` (43_bus_primitives.md R226). -/
def completeStart (k : StartKind) (s : State) : State :=
  match s.startAnswer with
  | .done =>
    ((s.afterStart.emit (.started k)).setCode
      (match k with
        | .s => scStartTx
        | .sr => scRepStartTx)).setPhase .addr
  | .arbLost => ((s.afterStart.emit (.startFail k .arbLost)).setCode scArbLost).setPhase .idle
  | .busError => ((s.afterStart.emit (.startFail k .busError)).setCode scBusError).setPhase .idle

/-- `lose_arbitration(e)` (43_bus_primitives.md R237), but for DATA after a lost receive, which
`completeRx` spoils. -/
def loseArbitration (e : Event) (s : State) : State := ((s.emit e).setCode scArbLost).setPhase .idle

/-- `complete_addr(b)` (43_bus_primitives.md R236), but for DATA, which `completeCmd` says. Bit 0 of the address
byte is the direction. -/
def completeAddr (b : Byte) (s : State) : State :=
  match s.txAnswer with
  | .ack =>
    let s := s.afterTx.emit (.addr b .ack)
    if b.getLsbD 0 then (s.setCode scAddrRAck).setPhase .mr else (s.setCode scAddrWAck).setPhase .mt
  | .nack =>
    let s := s.afterTx.emit (.addr b .nack)
    if b.getLsbD 0 then (s.setCode scAddrRNack).setPhase .mrHold else (s.setCode scAddrWNack).setPhase .mt
  | .arbLost => loseArbitration (.addr b .arbLost) s.afterTx

/-- `complete_tx(b)` (44_byte_transfer.md R271), but for DATA, which `completeCmd` says. -/
def completeTx (b : Byte) (s : State) : State :=
  match s.txAnswer with
  | .ack => (s.afterTx.emit (.tx b .ack)).setCode scDataTxAck
  | .nack => (s.afterTx.emit (.tx b .nack)).setCode scDataTxNack
  | .arbLost => loseArbitration (.tx b .arbLost) s.afterTx

/-- `complete_rx(a)` (44_byte_transfer.md R273); a lost receive spoils DATA (43_bus_primitives.md R237). -/
def completeRx (a : Bool) (s : State) : State :=
  match s.rxAnswer with
  | .byte v =>
    let s := s.afterRx.setData (.holds v)
    if a then ((s.emit (.rx v .ack)).setCode scDataRxAck).setPhase .mr
    else ((s.emit (.rx v .nack)).setCode scDataRxNack).setPhase .mrHold
  | .arbLost => (loseArbitration (.rxLost a) s.afterRx).setData .unspecified

/-- The part of a completion that depends on the command (43_bus_primitives.md R229). A byte that was sent is held by
DATA afterwards, whatever the answer (44_byte_transfer.md R272; 43_bus_primitives.md R236): DATA held it before, or was
unspecified at the launch, which drew it (log entry 4). -/
def completeCmd : Cmd → State → State
  | .start k, s => completeStart k s
  | .addrTx b, s => (completeAddr b s).setData (.holds b)
  | .dataTx b, s => (completeTx b s).setData (.holds b)
  | .dataRx a, s => completeRx a s

/-- `engine_complete()` (43_bus_primitives.md R229). The engine has no step with nothing pending. -/
def engineStep (s : State) : State :=
  match s.eng.pending with
  | none => s
  | some cmd => ((completeCmd cmd s).setPending none).setInt true

end Sys2Proof.Machine
end

