-- ==== Sys2Proof/Machine/Registers.lean ====
section
/-! DEFINITION. The registers as the host and the sequencer reach them: `reg_read` and `reg_write` of
40_register_interface.md, one function per register, and the host's check (R140). -/

namespace Sys2Proof.Machine

/-- `reg_read` of DATA (40_register_interface.md R145). -/
def readDataReg (s : State) : Byte × State :=
  if s.eng.pending.isSome then s.drawByte else s.readDrawn s.eng.data

/-- `reg_read` of RESULT (40_register_interface.md R170). -/
def readResultReg (s : State) : Byte × State := s.readDrawn s.result

/-- `reg_read` of TMR_CNT_L: the high byte goes to the latch (40_register_interface.md R151). -/
def readTmrCntL (s : State) : Byte × State :=
  (lowByte s.tmr.cnt, { s with tmr := { s.tmr with hlatch := highByte s.tmr.cnt } })

/-- A host read: the byte read is returned (40_register_interface.md R140; 30_encoding.md R100). -/
def hostRead (r : Byte × State) : State := r.2.returnByte r.1

/-- A host write to `off`: refused while an operation runs, else the register's own write
(40_register_interface.md R140). -/
def hostWrite (off : Offset) (v : Byte) (write : State → State) (s : State) : State :=
  if s.seq.busy then s.raise .hostWriteBusy off v else write s

/-- A write that is refused while a command is pending (60_exceptions.md R345, ENGINE_BUSY). -/
def unlessPending (off : Offset) (v : Byte) (write : State → State) (s : State) : State :=
  if s.eng.pending.isSome then s.raise .engineBusy off v else write s

/-- `reg_write` of STATUS (40_register_interface.md R144). -/
def writeStatus (v : Byte) (s : State) : State :=
  unlessPending offStatus v (fun s =>
    { s with
      eng := { s.eng with
        ps := v.extractLsb' 0 2
        err := if v.getLsbD 2 then false else s.eng.err } }) s

/-- `reg_write` of DATA (40_register_interface.md R146). -/
def writeData (v : Byte) (s : State) : State :=
  unlessPending offData v (fun s => s.setData (.holds v)) s

/-- `reg_write` of BITRATE (40_register_interface.md R148). -/
def writeBitrate (v : Byte) (s : State) : State :=
  unlessPending offBitrate v (fun s => { s with eng := { s.eng with bitrate := v } }) s

/-- `reg_write` of TMR_CTL (40_register_interface.md R150). -/
def writeTmrCtl (v : Byte) (s : State) : State :=
  { s with
    tmr := { s.tmr with
      run := v.getLsbD 0
      cnt := if v.getLsbD 1 then 0#16 else s.tmr.cnt } }

/-- `reg_write` of ARG_A (40_register_interface.md R157). -/
def writeArgA (v : Byte) (s : State) : State := { s with args := { s.args with a := v } }

/-- `reg_write` of ARG_B (40_register_interface.md R159). -/
def writeArgB (v : Byte) (s : State) : State := { s with args := { s.args with b := v } }

/-- `reg_write` of ARG_M (40_register_interface.md R161). -/
def writeArgM (v : Byte) (s : State) : State := { s with args := { s.args with m := v } }

/-- `reg_write` of ARG_N_L (40_register_interface.md R163). -/
def writeArgNL (v : Byte) (s : State) : State := { s with args := { s.args with n := withLow s.args.n v } }

/-- `reg_write` of ARG_N_H (40_register_interface.md R165). -/
def writeArgNH (v : Byte) (s : State) : State := { s with args := { s.args with n := withHigh s.args.n v } }

/-- `reg_write` of ARG_P_L (40_register_interface.md R167). -/
def writeArgPL (v : Byte) (s : State) : State := { s with args := { s.args with p := withLow s.args.p v } }

/-- `reg_write` of ARG_P_H (40_register_interface.md R169). -/
def writeArgPH (v : Byte) (s : State) : State := { s with args := { s.args with p := withHigh s.args.p v } }

/-- A write that is ignored: a read-only register or a reserved offset (40_register_interface.md R174,
R176). -/
def writeIgnored (s : State) : State := s

/-- A CTRL byte of class RESERVED_LOW: refused before the busy check (43_bus_primitives.md R234). -/
def ctrlReservedLow (v : Byte) (s : State) : State := s.raise .ctrlReserved offCtrl v

/-- A CTRL byte of class RESERVED_STASTO: refused, after the busy check (43_bus_primitives.md R234). -/
def ctrlReservedStasto (v : Byte) (s : State) : State :=
  unlessPending offCtrl v (fun s => s.raise .ctrlReserved offCtrl v) s

/-- A CTRL byte of class DISABLE (40_register_interface.md R142; 43_bus_primitives.md R233). -/
def ctrlDisable (v : Byte) (s : State) : State :=
  unlessPending offCtrl v (fun s => disableEngine (storeCtrl v s)) s

/-- A CTRL byte of class LATCH (40_register_interface.md R142; 43_bus_primitives.md R232). -/
def ctrlLatch (v : Byte) (s : State) : State := unlessPending offCtrl v (storeCtrl v) s

/-- A CTRL byte of class TRANSFER (40_register_interface.md R142; 43_bus_primitives.md R230). -/
def ctrlTransfer (v : Byte) (s : State) : State :=
  unlessPending offCtrl v (fun s => launchTransfer v (latchRate (storeCtrl v s))) s

/-- A CTRL byte of class STOP: it aborts a pending command (40_register_interface.md R142;
43_bus_primitives.md R227, R228). It is a launch too (30_encoding.md R106), and reads the rate. -/
def ctrlStop (v : Byte) (s : State) : State :=
  match s.eng.pending with
  | some cmd => abortStop cmd v (latchRate s)
  | none => stopCmd (latchRate (storeCtrl v s))

/-- A CTRL byte of class START (40_register_interface.md R142; 43_bus_primitives.md R225). -/
def ctrlStart (v : Byte) (s : State) : State :=
  unlessPending offCtrl v (fun s => launchStart (latchRate (storeCtrl v s))) s

/-- `reg_write` of CTRL (40_register_interface.md R142), by the byte's class. -/
def writeCtrl (v : Byte) (s : State) : State :=
  match ctrlClass v with
  | .reservedLow => ctrlReservedLow v s
  | .disable => ctrlDisable v s
  | .latch => ctrlLatch v s
  | .transfer => ctrlTransfer v s
  | .stop => ctrlStop v s
  | .start => ctrlStart v s
  | .reservedStasto => ctrlReservedStasto v s

/-- An accepted OP write: the arguments are latched, BUSY is set, and the sequencer stands at the first line
of the operation (40_register_interface.md R154; 10_state.md R45). The sequencer's locals, which 10_state.md R46 leaves
unspecified until the operation writes them, keep their last values (DESIGN CHOICE, log entry 7). -/
def startOp (v : Byte) (first : SeqPos) (s : State) : State :=
  { s with
    seq := { s.seq with
      op := v.extractLsb' 0 4
      r := v.getLsbD 4
      a := s.args.a
      b := s.args.b
      m := s.args.m
      n := s.args.n
      p := s.args.p
      busy := true
      pos := first } }

/-- A reserved OP byte (40_register_interface.md R154; 30_encoding.md R113). -/
def opReserved (v : Byte) (s : State) : State := s.raise .opReserved offOp v

end Sys2Proof.Machine
end

