-- ==== Sys2Proof/Machine/CtrlWrites.lean ====
section
/-! DEFINITION. The meanings of the CTRL writes, one per class of the command byte (40_register_interface.md R142;
43_bus_primitives.md R225 to R234). Every host write first applies the busy check of R140. -/

namespace Sys2Proof.Machine

/-- `wr CTRL` of class RESERVED_LOW_1 (43_bus_primitives.md R234). -/
def execWrCtrlReservedLow1 (int ea sta sto sa en : Bool) (s : State) : Host.Outcome State Fault Refusal :=
  let v := ctrlByte int ea sta sto sa en 1#2
  .next (hostWrite offCtrl v (ctrlReservedLow v) s)

/-- `wr CTRL` of class RESERVED_LOW_2 (43_bus_primitives.md R234). -/
def execWrCtrlReservedLow2 (int ea sta sto sa en : Bool) (s : State) : Host.Outcome State Fault Refusal :=
  let v := ctrlByte int ea sta sto sa en 2#2
  .next (hostWrite offCtrl v (ctrlReservedLow v) s)

/-- `wr CTRL` of class RESERVED_LOW_3 (43_bus_primitives.md R234). -/
def execWrCtrlReservedLow3 (int ea sta sto sa en : Bool) (s : State) : Host.Outcome State Fault Refusal :=
  let v := ctrlByte int ea sta sto sa en 3#2
  .next (hostWrite offCtrl v (ctrlReservedLow v) s)

/-- `wr CTRL` of class DISABLE (43_bus_primitives.md R233). -/
def execWrCtrlDisable (int ea sta sto sa : Bool) (s : State) : Host.Outcome State Fault Refusal :=
  let v := ctrlByte int ea sta sto sa false 0#2
  .next (hostWrite offCtrl v (ctrlDisable v) s)

/-- `wr CTRL` of class LATCH (43_bus_primitives.md R232). -/
def execWrCtrlLatch (ea sta sto sa : Bool) (s : State) : Host.Outcome State Fault Refusal :=
  let v := ctrlByte false ea sta sto sa true 0#2
  .next (hostWrite offCtrl v (ctrlLatch v) s)

/-- `wr CTRL` of class TRANSFER (43_bus_primitives.md R230). -/
def execWrCtrlTransfer (ea sa : Bool) (s : State) : Host.Outcome State Fault Refusal :=
  let v := ctrlByte true ea false false sa true 0#2
  .next (hostWrite offCtrl v (ctrlTransfer v) s)

/-- `wr CTRL` of class STOP (43_bus_primitives.md R227). -/
def execWrCtrlStop (ea sa : Bool) (s : State) : Host.Outcome State Fault Refusal :=
  let v := ctrlByte true ea false true sa true 0#2
  .next (hostWrite offCtrl v (ctrlStop v) s)

/-- `wr CTRL` of class START (43_bus_primitives.md R225). -/
def execWrCtrlStart (ea sa : Bool) (s : State) : Host.Outcome State Fault Refusal :=
  let v := ctrlByte true ea true false sa true 0#2
  .next (hostWrite offCtrl v (ctrlStart v) s)

/-- `wr CTRL` of class RESERVED_STASTO (43_bus_primitives.md R234). -/
def execWrCtrlReservedStasto (ea sa : Bool) (s : State) : Host.Outcome State Fault Refusal :=
  let v := ctrlByte true ea true true sa true 0#2
  .next (hostWrite offCtrl v (ctrlReservedStasto v) s)

end Sys2Proof.Machine
end

