-- ==== Sys2Proof/Machine/Operations.lean ====
section
/-! DEFINITION. The meanings of the OP writes (40_register_interface.md R154; 30_encoding.md R112, R113). The access latches
the arguments and sets BUSY; the operation itself is run by the sequencer, a line a step, in
Machine/Sequencer.lean. Every host write first applies the busy check of R140. -/

namespace Sys2Proof.Machine

/-- `wr OP, 0x01`: the operation `init` starts (42_configuration.md R201; 40_register_interface.md R154). -/
def execOpInit (s : State) : Host.Outcome State Fault Refusal :=
  .next (hostWrite offOp 0x01#8 (startOp 0x01#8 .initBitrate) s)

/-- `wr OP, 0x02`: the operation `start` starts (43_bus_primitives.md R250; 40_register_interface.md R154). -/
def execOpStart (s : State) : Host.Outcome State Fault Refusal :=
  .next (hostWrite offOp 0x02#8 (startOp 0x02#8 (.start .command)) s)

/-- `wr OP, 0x03`: the operation `stop` starts (43_bus_primitives.md R251; 40_register_interface.md R154). -/
def execOpStop (s : State) : Host.Outcome State Fault Refusal :=
  .next (hostWrite offOp 0x03#8 (startOp 0x03#8 .stop) s)

/-- `wr OP, 0x04`: the operation `restart` starts (43_bus_primitives.md R252; 40_register_interface.md R154). -/
def execOpRestart (s : State) : Host.Outcome State Fault Refusal :=
  .next (hostWrite offOp 0x04#8 (startOp 0x04#8 .restart) s)

/-- `wr OP, 0x05`: the operation `writeByte` starts (44_byte_transfer.md R281; 40_register_interface.md R154). -/
def execOpWriteByte (s : State) : Host.Outcome State Fault Refusal :=
  .next (hostWrite offOp 0x05#8 (startOp 0x05#8 (.writeByte .budget)) s)

/-- `wr OP, 0x06`: the operation `readByte` starts (44_byte_transfer.md R282; 40_register_interface.md R154). -/
def execOpReadByte (s : State) : Host.Outcome State Fault Refusal :=
  .next (hostWrite offOp 0x06#8 (startOp 0x06#8 (.readByte .budget)) s)

/-- `wr OP, 0x07`: the operation `write`, endWithRestart = false starts (45_transactions.md R310; 40_register_interface.md R154). -/
def execOpWrite (s : State) : Host.Outcome State Fault Refusal :=
  .next (hostWrite offOp 0x07#8 (startOp 0x07#8 (.write (.start .command))) s)

/-- `wr OP, 0x17`: the operation `write`, endWithRestart = true starts (45_transactions.md R310; 40_register_interface.md R154). -/
def execOpWriteR (s : State) : Host.Outcome State Fault Refusal :=
  .next (hostWrite offOp 0x17#8 (startOp 0x17#8 (.write (.start .command))) s)

/-- `wr OP, 0x08`: the operation `read`, endWithRestart = false starts (45_transactions.md R311; 40_register_interface.md R154). -/
def execOpRead (s : State) : Host.Outcome State Fault Refusal :=
  .next (hostWrite offOp 0x08#8 (startOp 0x08#8 (.read (.start .command))) s)

/-- `wr OP, 0x18`: the operation `read`, endWithRestart = true starts (45_transactions.md R311; 40_register_interface.md R154). -/
def execOpReadR (s : State) : Host.Outcome State Fault Refusal :=
  .next (hostWrite offOp 0x18#8 (startOp 0x18#8 (.read (.start .command))) s)

/-- `wr OP, 0x09`: the operation `delay` starts (41_timing_source.md R185; 40_register_interface.md R154). -/
def execOpDelay (s : State) : Host.Outcome State Fault Refusal :=
  .next (hostWrite offOp 0x09#8 (startOp 0x09#8 .delayArm) s)

/-- `wr OP, v`, reserved: `v & 0x80 = 0x80` (30_encoding.md R113). -/
def execOpReservedHi80 (v : Byte) (s : State) : Host.Outcome State Fault Refusal :=
  .next (hostWrite offOp v (opReserved v) s)

/-- `wr OP, v`, reserved: `v & 0xC0 = 0x40` (30_encoding.md R113). -/
def execOpReservedHi40 (v : Byte) (s : State) : Host.Outcome State Fault Refusal :=
  .next (hostWrite offOp v (opReserved v) s)

/-- `wr OP, v`, reserved: `v & 0xE0 = 0x20` (30_encoding.md R113). -/
def execOpReservedHi20 (v : Byte) (s : State) : Host.Outcome State Fault Refusal :=
  .next (hostWrite offOp v (opReserved v) s)

/-- `wr OP, v`, reserved: `v & 0xEF = 0x00` (30_encoding.md R113). -/
def execOpReservedOpc0 (v : Byte) (s : State) : Host.Outcome State Fault Refusal :=
  .next (hostWrite offOp v (opReserved v) s)

/-- `wr OP, v`, reserved: `v & 0xEE = 0x0A` (30_encoding.md R113). -/
def execOpReservedOpcAb (v : Byte) (s : State) : Host.Outcome State Fault Refusal :=
  .next (hostWrite offOp v (opReserved v) s)

/-- `wr OP, v`, reserved: `v & 0xEC = 0x0C` (30_encoding.md R113). -/
def execOpReservedOpcCf (v : Byte) (s : State) : Host.Outcome State Fault Refusal :=
  .next (hostWrite offOp v (opReserved v) s)

/-- `wr OP, 0x11`, reserved (30_encoding.md R113). -/
def execOpReservedR11 (s : State) : Host.Outcome State Fault Refusal :=
  .next (hostWrite offOp 0x11#8 (opReserved 0x11#8) s)

/-- `wr OP, v`, reserved: `v & 0xFE = 0x12` (30_encoding.md R113). -/
def execOpReservedR12 (v : Byte) (s : State) : Host.Outcome State Fault Refusal :=
  .next (hostWrite offOp v (opReserved v) s)

/-- `wr OP, v`, reserved: `v & 0xFE = 0x14` (30_encoding.md R113). -/
def execOpReservedR14 (v : Byte) (s : State) : Host.Outcome State Fault Refusal :=
  .next (hostWrite offOp v (opReserved v) s)

/-- `wr OP, 0x16`, reserved (30_encoding.md R113). -/
def execOpReservedR16 (s : State) : Host.Outcome State Fault Refusal :=
  .next (hostWrite offOp 0x16#8 (opReserved 0x16#8) s)

/-- `wr OP, 0x19`, reserved (30_encoding.md R113). -/
def execOpReservedR19 (s : State) : Host.Outcome State Fault Refusal :=
  .next (hostWrite offOp 0x19#8 (opReserved 0x19#8) s)

end Sys2Proof.Machine
end

