-- ==== Sys2Proof/Machine/Reads.lean ====
section
/-! DEFINITION. The meanings of the read accesses (40_register_interface.md R141 to R175). A read is allowed at any
time and never faults (R140; 60_exceptions.md R345); the byte read goes to the read data of the port. -/

namespace Sys2Proof.Machine

/-- `rd CTRL`, offset 0x00 (40_register_interface.md R141). -/
def execRdCtrl (s : State) : Host.Outcome State Fault Refusal := .next (hostRead (ctrlValue s, s))

/-- `rd STATUS`, offset 0x01 (40_register_interface.md R143). -/
def execRdStatus (s : State) : Host.Outcome State Fault Refusal := .next (hostRead (statusValue s, s))

/-- `rd DATA`, offset 0x02 (40_register_interface.md R145). -/
def execRdData (s : State) : Host.Outcome State Fault Refusal := .next (hostRead (readDataReg s))

/-- `rd BITRATE`, offset 0x03 (40_register_interface.md R147). -/
def execRdBitrate (s : State) : Host.Outcome State Fault Refusal := .next (hostRead (s.eng.bitrate, s))

/-- `rd TMR_CTL`, offset 0x04 (40_register_interface.md R149). -/
def execRdTmrCtl (s : State) : Host.Outcome State Fault Refusal := .next (hostRead (tmrCtlValue s, s))

/-- `rd TMR_CNT_L`, offset 0x05 (40_register_interface.md R151). -/
def execRdTmrCntL (s : State) : Host.Outcome State Fault Refusal := .next (hostRead (readTmrCntL s))

/-- `rd TMR_CNT_H`, offset 0x06 (40_register_interface.md R152). -/
def execRdTmrCntH (s : State) : Host.Outcome State Fault Refusal := .next (hostRead (s.tmr.hlatch, s))

/-- `rd 0x07`, a reserved offset (40_register_interface.md R175). -/
def execRdRsv07 (s : State) : Host.Outcome State Fault Refusal := .next (hostRead (0x00#8, s))

/-- `rd OP`, offset 0x08 (40_register_interface.md R153). -/
def execRdOp (s : State) : Host.Outcome State Fault Refusal := .next (hostRead (0x00#8, s))

/-- `rd SEQ_STAT`, offset 0x09 (40_register_interface.md R155). -/
def execRdSeqStat (s : State) : Host.Outcome State Fault Refusal := .next (hostRead (seqStatValue s, s))

/-- `rd ARG_A`, offset 0x0A (40_register_interface.md R156). -/
def execRdArgA (s : State) : Host.Outcome State Fault Refusal := .next (hostRead (s.args.a, s))

/-- `rd ARG_B`, offset 0x0B (40_register_interface.md R158). -/
def execRdArgB (s : State) : Host.Outcome State Fault Refusal := .next (hostRead (s.args.b, s))

/-- `rd ARG_M`, offset 0x0C (40_register_interface.md R160). -/
def execRdArgM (s : State) : Host.Outcome State Fault Refusal := .next (hostRead (s.args.m, s))

/-- `rd RESULT`, offset 0x0D (40_register_interface.md R170). -/
def execRdResult (s : State) : Host.Outcome State Fault Refusal := .next (hostRead (readResultReg s))

/-- `rd ARG_N_L`, offset 0x0E (40_register_interface.md R162). -/
def execRdArgNL (s : State) : Host.Outcome State Fault Refusal := .next (hostRead (lowByte s.args.n, s))

/-- `rd ARG_N_H`, offset 0x0F (40_register_interface.md R164). -/
def execRdArgNH (s : State) : Host.Outcome State Fault Refusal := .next (hostRead (highByte s.args.n, s))

/-- `rd ARG_P_L`, offset 0x10 (40_register_interface.md R166). -/
def execRdArgPL (s : State) : Host.Outcome State Fault Refusal := .next (hostRead (lowByte s.args.p, s))

/-- `rd ARG_P_H`, offset 0x11 (40_register_interface.md R168). -/
def execRdArgPH (s : State) : Host.Outcome State Fault Refusal := .next (hostRead (highByte s.args.p, s))

/-- `rd CFG_TICKS_L`, offset 0x12 (40_register_interface.md R171). -/
def execRdCfgTicksL (s : State) : Host.Outcome State Fault Refusal := .next (hostRead (lowByte s.cfg.ticks, s))

/-- `rd CFG_TICKS_H`, offset 0x13 (40_register_interface.md R172). -/
def execRdCfgTicksH (s : State) : Host.Outcome State Fault Refusal := .next (hostRead (highByte s.cfg.ticks, s))

/-- `rd CFG_RETRIES`, offset 0x14 (40_register_interface.md R173). -/
def execRdCfgRetries (s : State) : Host.Outcome State Fault Refusal := .next (hostRead (s.cfg.retries, s))

/-- `rd 0x15`, a reserved offset (40_register_interface.md R175). -/
def execRdRsv15 (s : State) : Host.Outcome State Fault Refusal := .next (hostRead (0x00#8, s))

/-- `rd 0x16`, a reserved offset (40_register_interface.md R175). -/
def execRdRsv16 (s : State) : Host.Outcome State Fault Refusal := .next (hostRead (0x00#8, s))

/-- `rd 0x17`, a reserved offset (40_register_interface.md R175). -/
def execRdRsv17 (s : State) : Host.Outcome State Fault Refusal := .next (hostRead (0x00#8, s))

/-- `rd 0x18`, a reserved offset (40_register_interface.md R175). -/
def execRdRsv18 (s : State) : Host.Outcome State Fault Refusal := .next (hostRead (0x00#8, s))

/-- `rd 0x19`, a reserved offset (40_register_interface.md R175). -/
def execRdRsv19 (s : State) : Host.Outcome State Fault Refusal := .next (hostRead (0x00#8, s))

/-- `rd 0x1A`, a reserved offset (40_register_interface.md R175). -/
def execRdRsv1A (s : State) : Host.Outcome State Fault Refusal := .next (hostRead (0x00#8, s))

/-- `rd 0x1B`, a reserved offset (40_register_interface.md R175). -/
def execRdRsv1B (s : State) : Host.Outcome State Fault Refusal := .next (hostRead (0x00#8, s))

/-- `rd 0x1C`, a reserved offset (40_register_interface.md R175). -/
def execRdRsv1C (s : State) : Host.Outcome State Fault Refusal := .next (hostRead (0x00#8, s))

/-- `rd 0x1D`, a reserved offset (40_register_interface.md R175). -/
def execRdRsv1D (s : State) : Host.Outcome State Fault Refusal := .next (hostRead (0x00#8, s))

/-- `rd 0x1E`, a reserved offset (40_register_interface.md R175). -/
def execRdRsv1E (s : State) : Host.Outcome State Fault Refusal := .next (hostRead (0x00#8, s))

/-- `rd 0x1F`, a reserved offset (40_register_interface.md R175). -/
def execRdRsv1F (s : State) : Host.Outcome State Fault Refusal := .next (hostRead (0x00#8, s))

end Sys2Proof.Machine
end

