-- ==== Sys2Proof/Machine/Writes.lean ====
section
/-! DEFINITION. The meanings of the write accesses to registers other than CTRL and OP (40_register_interface.md R144 to
R176). Every host write first applies the busy check of R140. -/

namespace Sys2Proof.Machine

/-- `wr STATUS, v`, offset 0x01 (40_register_interface.md R144). -/
def execWrStatus (v : Byte) (s : State) : Host.Outcome State Fault Refusal :=
  .next (hostWrite 0x01#5 v (writeStatus v) s)

/-- `wr DATA, v`, offset 0x02 (40_register_interface.md R146). -/
def execWrData (v : Byte) (s : State) : Host.Outcome State Fault Refusal :=
  .next (hostWrite 0x02#5 v (writeData v) s)

/-- `wr BITRATE, v`, offset 0x03 (40_register_interface.md R148). -/
def execWrBitrate (v : Byte) (s : State) : Host.Outcome State Fault Refusal :=
  .next (hostWrite 0x03#5 v (writeBitrate v) s)

/-- `wr TMR_CTL, v`, offset 0x04 (40_register_interface.md R150). -/
def execWrTmrCtl (v : Byte) (s : State) : Host.Outcome State Fault Refusal :=
  .next (hostWrite 0x04#5 v (writeTmrCtl v) s)

/-- `wr TMR_CNT_L, v`, offset 0x05, a read-only register (40_register_interface.md R174). -/
def execWrRoTmrCntL (v : Byte) (s : State) : Host.Outcome State Fault Refusal :=
  .next (hostWrite 0x05#5 v writeIgnored s)

/-- `wr TMR_CNT_H, v`, offset 0x06, a read-only register (40_register_interface.md R174). -/
def execWrRoTmrCntH (v : Byte) (s : State) : Host.Outcome State Fault Refusal :=
  .next (hostWrite 0x06#5 v writeIgnored s)

/-- `wr 0x07, v`, a reserved offset (40_register_interface.md R176). -/
def execWrRsv07 (v : Byte) (s : State) : Host.Outcome State Fault Refusal :=
  .next (hostWrite 0x07#5 v writeIgnored s)

/-- `wr SEQ_STAT, v`, offset 0x09, a read-only register (40_register_interface.md R174). -/
def execWrRoSeqStat (v : Byte) (s : State) : Host.Outcome State Fault Refusal :=
  .next (hostWrite 0x09#5 v writeIgnored s)

/-- `wr ARG_A, v`, offset 0x0A (40_register_interface.md R157). -/
def execWrArgA (v : Byte) (s : State) : Host.Outcome State Fault Refusal :=
  .next (hostWrite 0x0A#5 v (writeArgA v) s)

/-- `wr ARG_B, v`, offset 0x0B (40_register_interface.md R159). -/
def execWrArgB (v : Byte) (s : State) : Host.Outcome State Fault Refusal :=
  .next (hostWrite 0x0B#5 v (writeArgB v) s)

/-- `wr ARG_M, v`, offset 0x0C (40_register_interface.md R161). -/
def execWrArgM (v : Byte) (s : State) : Host.Outcome State Fault Refusal :=
  .next (hostWrite 0x0C#5 v (writeArgM v) s)

/-- `wr RESULT, v`, offset 0x0D, a read-only register (40_register_interface.md R174). -/
def execWrRoResult (v : Byte) (s : State) : Host.Outcome State Fault Refusal :=
  .next (hostWrite 0x0D#5 v writeIgnored s)

/-- `wr ARG_N_L, v`, offset 0x0E (40_register_interface.md R163). -/
def execWrArgNL (v : Byte) (s : State) : Host.Outcome State Fault Refusal :=
  .next (hostWrite 0x0E#5 v (writeArgNL v) s)

/-- `wr ARG_N_H, v`, offset 0x0F (40_register_interface.md R165). -/
def execWrArgNH (v : Byte) (s : State) : Host.Outcome State Fault Refusal :=
  .next (hostWrite 0x0F#5 v (writeArgNH v) s)

/-- `wr ARG_P_L, v`, offset 0x10 (40_register_interface.md R167). -/
def execWrArgPL (v : Byte) (s : State) : Host.Outcome State Fault Refusal :=
  .next (hostWrite 0x10#5 v (writeArgPL v) s)

/-- `wr ARG_P_H, v`, offset 0x11 (40_register_interface.md R169). -/
def execWrArgPH (v : Byte) (s : State) : Host.Outcome State Fault Refusal :=
  .next (hostWrite 0x11#5 v (writeArgPH v) s)

/-- `wr CFG_TICKS_L, v`, offset 0x12, a read-only register (40_register_interface.md R174). -/
def execWrRoCfgTicksL (v : Byte) (s : State) : Host.Outcome State Fault Refusal :=
  .next (hostWrite 0x12#5 v writeIgnored s)

/-- `wr CFG_TICKS_H, v`, offset 0x13, a read-only register (40_register_interface.md R174). -/
def execWrRoCfgTicksH (v : Byte) (s : State) : Host.Outcome State Fault Refusal :=
  .next (hostWrite 0x13#5 v writeIgnored s)

/-- `wr CFG_RETRIES, v`, offset 0x14, a read-only register (40_register_interface.md R174). -/
def execWrRoCfgRetries (v : Byte) (s : State) : Host.Outcome State Fault Refusal :=
  .next (hostWrite 0x14#5 v writeIgnored s)

/-- `wr 0x15, v`, a reserved offset (40_register_interface.md R176). -/
def execWrRsv15 (v : Byte) (s : State) : Host.Outcome State Fault Refusal :=
  .next (hostWrite 0x15#5 v writeIgnored s)

/-- `wr 0x16, v`, a reserved offset (40_register_interface.md R176). -/
def execWrRsv16 (v : Byte) (s : State) : Host.Outcome State Fault Refusal :=
  .next (hostWrite 0x16#5 v writeIgnored s)

/-- `wr 0x17, v`, a reserved offset (40_register_interface.md R176). -/
def execWrRsv17 (v : Byte) (s : State) : Host.Outcome State Fault Refusal :=
  .next (hostWrite 0x17#5 v writeIgnored s)

/-- `wr 0x18, v`, a reserved offset (40_register_interface.md R176). -/
def execWrRsv18 (v : Byte) (s : State) : Host.Outcome State Fault Refusal :=
  .next (hostWrite 0x18#5 v writeIgnored s)

/-- `wr 0x19, v`, a reserved offset (40_register_interface.md R176). -/
def execWrRsv19 (v : Byte) (s : State) : Host.Outcome State Fault Refusal :=
  .next (hostWrite 0x19#5 v writeIgnored s)

/-- `wr 0x1A, v`, a reserved offset (40_register_interface.md R176). -/
def execWrRsv1A (v : Byte) (s : State) : Host.Outcome State Fault Refusal :=
  .next (hostWrite 0x1A#5 v writeIgnored s)

/-- `wr 0x1B, v`, a reserved offset (40_register_interface.md R176). -/
def execWrRsv1B (v : Byte) (s : State) : Host.Outcome State Fault Refusal :=
  .next (hostWrite 0x1B#5 v writeIgnored s)

/-- `wr 0x1C, v`, a reserved offset (40_register_interface.md R176). -/
def execWrRsv1C (v : Byte) (s : State) : Host.Outcome State Fault Refusal :=
  .next (hostWrite 0x1C#5 v writeIgnored s)

/-- `wr 0x1D, v`, a reserved offset (40_register_interface.md R176). -/
def execWrRsv1D (v : Byte) (s : State) : Host.Outcome State Fault Refusal :=
  .next (hostWrite 0x1D#5 v writeIgnored s)

/-- `wr 0x1E, v`, a reserved offset (40_register_interface.md R176). -/
def execWrRsv1E (v : Byte) (s : State) : Host.Outcome State Fault Refusal :=
  .next (hostWrite 0x1E#5 v writeIgnored s)

/-- `wr 0x1F, v`, a reserved offset (40_register_interface.md R176). -/
def execWrRsv1F (v : Byte) (s : State) : Host.Outcome State Fault Refusal :=
  .next (hostWrite 0x1F#5 v writeIgnored s)

end Sys2Proof.Machine
end

