-- ==== Sys2Proof/Machine/Dispatch.lean ====
section
/-! DEFINITION. The host's register access: one arm per row of the opcode table. -/

namespace Sys2Proof.Machine

def exec (i : Instr) (s : State) : Host.Outcome State Fault Refusal :=
  match i with
  | .rdCtrl => Sys2Proof.Machine.execRdCtrl s
  | .rdStatus => Sys2Proof.Machine.execRdStatus s
  | .rdData => Sys2Proof.Machine.execRdData s
  | .rdBitrate => Sys2Proof.Machine.execRdBitrate s
  | .rdTmrCtl => Sys2Proof.Machine.execRdTmrCtl s
  | .rdTmrCntL => Sys2Proof.Machine.execRdTmrCntL s
  | .rdTmrCntH => Sys2Proof.Machine.execRdTmrCntH s
  | .rdRsv07 => Sys2Proof.Machine.execRdRsv07 s
  | .rdOp => Sys2Proof.Machine.execRdOp s
  | .rdSeqStat => Sys2Proof.Machine.execRdSeqStat s
  | .rdArgA => Sys2Proof.Machine.execRdArgA s
  | .rdArgB => Sys2Proof.Machine.execRdArgB s
  | .rdArgM => Sys2Proof.Machine.execRdArgM s
  | .rdResult => Sys2Proof.Machine.execRdResult s
  | .rdArgNL => Sys2Proof.Machine.execRdArgNL s
  | .rdArgNH => Sys2Proof.Machine.execRdArgNH s
  | .rdArgPL => Sys2Proof.Machine.execRdArgPL s
  | .rdArgPH => Sys2Proof.Machine.execRdArgPH s
  | .rdCfgTicksL => Sys2Proof.Machine.execRdCfgTicksL s
  | .rdCfgTicksH => Sys2Proof.Machine.execRdCfgTicksH s
  | .rdCfgRetries => Sys2Proof.Machine.execRdCfgRetries s
  | .rdRsv15 => Sys2Proof.Machine.execRdRsv15 s
  | .rdRsv16 => Sys2Proof.Machine.execRdRsv16 s
  | .rdRsv17 => Sys2Proof.Machine.execRdRsv17 s
  | .rdRsv18 => Sys2Proof.Machine.execRdRsv18 s
  | .rdRsv19 => Sys2Proof.Machine.execRdRsv19 s
  | .rdRsv1A => Sys2Proof.Machine.execRdRsv1A s
  | .rdRsv1B => Sys2Proof.Machine.execRdRsv1B s
  | .rdRsv1C => Sys2Proof.Machine.execRdRsv1C s
  | .rdRsv1D => Sys2Proof.Machine.execRdRsv1D s
  | .rdRsv1E => Sys2Proof.Machine.execRdRsv1E s
  | .rdRsv1F => Sys2Proof.Machine.execRdRsv1F s
  | .wrStatus v => Sys2Proof.Machine.execWrStatus v s
  | .wrData v => Sys2Proof.Machine.execWrData v s
  | .wrBitrate v => Sys2Proof.Machine.execWrBitrate v s
  | .wrTmrCtl v => Sys2Proof.Machine.execWrTmrCtl v s
  | .wrRoTmrCntL v => Sys2Proof.Machine.execWrRoTmrCntL v s
  | .wrRoTmrCntH v => Sys2Proof.Machine.execWrRoTmrCntH v s
  | .wrRsv07 v => Sys2Proof.Machine.execWrRsv07 v s
  | .wrRoSeqStat v => Sys2Proof.Machine.execWrRoSeqStat v s
  | .wrArgA v => Sys2Proof.Machine.execWrArgA v s
  | .wrArgB v => Sys2Proof.Machine.execWrArgB v s
  | .wrArgM v => Sys2Proof.Machine.execWrArgM v s
  | .wrRoResult v => Sys2Proof.Machine.execWrRoResult v s
  | .wrArgNL v => Sys2Proof.Machine.execWrArgNL v s
  | .wrArgNH v => Sys2Proof.Machine.execWrArgNH v s
  | .wrArgPL v => Sys2Proof.Machine.execWrArgPL v s
  | .wrArgPH v => Sys2Proof.Machine.execWrArgPH v s
  | .wrRoCfgTicksL v => Sys2Proof.Machine.execWrRoCfgTicksL v s
  | .wrRoCfgTicksH v => Sys2Proof.Machine.execWrRoCfgTicksH v s
  | .wrRoCfgRetries v => Sys2Proof.Machine.execWrRoCfgRetries v s
  | .wrRsv15 v => Sys2Proof.Machine.execWrRsv15 v s
  | .wrRsv16 v => Sys2Proof.Machine.execWrRsv16 v s
  | .wrRsv17 v => Sys2Proof.Machine.execWrRsv17 v s
  | .wrRsv18 v => Sys2Proof.Machine.execWrRsv18 v s
  | .wrRsv19 v => Sys2Proof.Machine.execWrRsv19 v s
  | .wrRsv1A v => Sys2Proof.Machine.execWrRsv1A v s
  | .wrRsv1B v => Sys2Proof.Machine.execWrRsv1B v s
  | .wrRsv1C v => Sys2Proof.Machine.execWrRsv1C v s
  | .wrRsv1D v => Sys2Proof.Machine.execWrRsv1D v s
  | .wrRsv1E v => Sys2Proof.Machine.execWrRsv1E v s
  | .wrRsv1F v => Sys2Proof.Machine.execWrRsv1F v s
  | .wrCtrlReservedLow1 int ea sta sto sa en => Sys2Proof.Machine.execWrCtrlReservedLow1 int ea sta sto sa en s
  | .wrCtrlReservedLow2 int ea sta sto sa en => Sys2Proof.Machine.execWrCtrlReservedLow2 int ea sta sto sa en s
  | .wrCtrlReservedLow3 int ea sta sto sa en => Sys2Proof.Machine.execWrCtrlReservedLow3 int ea sta sto sa en s
  | .wrCtrlDisable int ea sta sto sa => Sys2Proof.Machine.execWrCtrlDisable int ea sta sto sa s
  | .wrCtrlLatch ea sta sto sa => Sys2Proof.Machine.execWrCtrlLatch ea sta sto sa s
  | .wrCtrlTransfer ea sa => Sys2Proof.Machine.execWrCtrlTransfer ea sa s
  | .wrCtrlStop ea sa => Sys2Proof.Machine.execWrCtrlStop ea sa s
  | .wrCtrlStart ea sa => Sys2Proof.Machine.execWrCtrlStart ea sa s
  | .wrCtrlReservedStasto ea sa => Sys2Proof.Machine.execWrCtrlReservedStasto ea sa s
  | .opInit => Sys2Proof.Machine.execOpInit s
  | .opStart => Sys2Proof.Machine.execOpStart s
  | .opStop => Sys2Proof.Machine.execOpStop s
  | .opRestart => Sys2Proof.Machine.execOpRestart s
  | .opWriteByte => Sys2Proof.Machine.execOpWriteByte s
  | .opReadByte => Sys2Proof.Machine.execOpReadByte s
  | .opWrite => Sys2Proof.Machine.execOpWrite s
  | .opWriteR => Sys2Proof.Machine.execOpWriteR s
  | .opRead => Sys2Proof.Machine.execOpRead s
  | .opReadR => Sys2Proof.Machine.execOpReadR s
  | .opDelay => Sys2Proof.Machine.execOpDelay s
  | .opReservedHi80 v => Sys2Proof.Machine.execOpReservedHi80 v s
  | .opReservedHi40 v => Sys2Proof.Machine.execOpReservedHi40 v s
  | .opReservedHi20 v => Sys2Proof.Machine.execOpReservedHi20 v s
  | .opReservedOpc0 v => Sys2Proof.Machine.execOpReservedOpc0 v s
  | .opReservedOpcAb v => Sys2Proof.Machine.execOpReservedOpcAb v s
  | .opReservedOpcCf v => Sys2Proof.Machine.execOpReservedOpcCf v s
  | .opReservedR11 => Sys2Proof.Machine.execOpReservedR11 s
  | .opReservedR12 v => Sys2Proof.Machine.execOpReservedR12 v s
  | .opReservedR14 v => Sys2Proof.Machine.execOpReservedR14 v s
  | .opReservedR16 => Sys2Proof.Machine.execOpReservedR16 s
  | .opReservedR19 => Sys2Proof.Machine.execOpReservedR19 s

end Sys2Proof.Machine
end

