-- ==== Sys2Proof/Machine/Timing.lean ====
section
/-! DEFINITION. The Timing Source: the tick, and the two steps of the delay primitive
(41_timing_source.md R181, R186). -/

namespace Sys2Proof.Machine

/-- The timer's step (41_timing_source.md R181). The timer has no step while RUN is 0. -/
def timerStep (s : State) : State :=
  if s.tmr.run then
    { s with
      tmr := { s.tmr with
        cnt := s.tmr.cnt + 1#16
        matched := s.tmr.matched || s.tmr.cnt + 1#16 == s.tmr.target } }
  else s

/-- The first step of `delay(n)`, "armed on entry" (41_timing_source.md R186). -/
def armDelay (n : Half) (s : State) : State :=
  { s with tmr := { s.tmr with cnt := 0#16, target := n, matched := n == 0#16, run := true } }

/-- The last step of `delay(n)`, "disarmed on exit"; it waits for `tmr.match` (41_timing_source.md R186). -/
def disarmDelay (s : State) : State := { s with tmr := { s.tmr with run := false } }

end Sys2Proof.Machine
end

