-- ==== Sys2Proof/Machine/Sequencer.lean ====
section
/-! DEFINITION. The sequencer: one line of an operation's pseudocode per step (00_scope.md R12;
43_bus_primitives.md R241, R242). -/

namespace Sys2Proof.Machine

/-- What a line of a procedure does: it waits, its guard being false; or it goes to a line of the procedure;
or the procedure returns. -/
inductive Flow (L : Type) where
  | wait
  | line (l : L) (s : State)
  | ret (o : TransferOutcome) (s : State)

/-- A procedure called by an operation: `wrap` is the operation's name for the procedure's lines, `after`
what the operation does in the step of the return (43_bus_primitives.md R242). -/
def runCall {L : Type} (f : Flow L) (s : State) (wrap : L → SeqPos)
    (after : TransferOutcome → State → State) : State :=
  match f with
  | .wait => s
  | .line l t => t.goto (wrap l)
  | .ret o t => after o t

/-- The operations that return an outcome, by `seq.op` (40_register_interface.md R154). -/
def returnsOutcome (op : BitVec 4) : Bool :=
  op == 0x2#4 || op == 0x5#4 || op == 0x6#4 || op == 0x7#4 || op == 0x8#4

/-- The end of an operation: BUSY is cleared and no line is left (40_register_interface.md R154,
`finish(-)`). The sequencer's locals, which 10_state.md R46 leaves unspecified between operations, keep their last
values (DESIGN CHOICE, log entry 7). -/
def finishVoid (s : State) : State := { s with seq := { s.seq with busy := false, pos := .none } }

/-- The end of an operation with an outcome (40_register_interface.md R154, `finish(o)`). -/
def finish (o : TransferOutcome) (s : State) : State :=
  finishVoid
    { s with seq := { s.seq with outcome := if returnsOutcome s.seq.op then o else s.seq.outcome } }

/-- `seq.o <- ...` of a call, and the line after it. -/
def keepOutcome (next : SeqPos) (o : TransferOutcome) (s : State) : State :=
  State.goto next { s with seq := { s.seq with o := o } }

/-- `seq.s <- rdSTATUS & 0xF8`. -/
def pollStatus (s : State) : State := { s with seq := { s.seq with sc := statusCode s } }

/-- `seq.c <- CFG_RETRIES`. -/
def loadBudget (s : State) : State := { s with seq := { s.seq with c := s.cfg.retries } }

/-- `seq.exhausted <- (seq.c = 0); if seq.c > 0: seq.c <- seq.c - 1` (44_byte_transfer.md R281). -/
def spendAttempt (s : State) : State :=
  { s with
    seq := { s.seq with
      exhausted := s.seq.c == 0#8
      c := if s.seq.c = 0#8 then 0#8 else s.seq.c - 1#8 } }

/-- `seq.v <- rdDATA`. -/
def fetchData (s : State) : State :=
  let (v, s) := readDataReg s
  { s with seq := { s.seq with v := v } }

/-- A line of `start_core(a)` (43_bus_primitives.md R250). -/
def startCore (a : Byte) (l : StartLine) (s : State) : Flow StartLine :=
  match l with
  | .command => .line .status (writeCtrl cmdStart s)
  | .status => if s.eng.ctrl.int then .line .checkStart (pollStatus s) else .wait
  | .checkStart => if startOk s.seq.sc then .line .data s else .ret .failedStart s
  | .data => .line .transmit (writeData a s)
  | .transmit => .line .addrStatus (writeCtrl cmdTransmit s)
  | .addrStatus => if s.eng.ctrl.int then .line .checkAddr (pollStatus s) else .wait
  | .checkAddr => if addrAck s.seq.sc then .line .returnOk s else .ret .noAck s
  | .returnOk => .ret .ok s

/-- A line of `write_byte_core(b)` (44_byte_transfer.md R281). -/
def writeByteCore (b : Byte) (l : ByteLine) (s : State) : Flow ByteLine :=
  match l with
  | .budget => .line .data (loadBudget s)
  | .data => .line .transmit (writeData b s)
  | .transmit => .line .status (writeCtrl cmdTransmit s)
  | .status => if s.eng.ctrl.int then .line .checkAck (pollStatus s) else .wait
  | .checkAck => if txAck s.seq.sc then .ret .ok s else .line .spend s
  | .spend => .line .arm (spendAttempt s)
  | .arm => .line .disarm (armDelay s.cfg.ticks s)
  | .disarm => if s.tmr.matched then .line .checkExhausted (disarmDelay s) else .wait
  | .checkExhausted => if s.seq.exhausted then .ret .noAck s else .line .data s

/-- A line of `read_byte_core()` (44_byte_transfer.md R282). The test of the status read is part of its
step. -/
def readByteCore (l : PollLine) (s : State) : Flow PollLine :=
  match l with
  | .budget => .line .poll (loadBudget s)
  | .poll =>
    let s := pollStatus s
    if rxDone s.seq.sc then .line .data s else .line .spend s
  | .data => .line .returnOk (fetchData s)
  | .returnOk => .ret .ok s
  | .spend => .line .arm (spendAttempt s)
  | .arm => .line .disarm (armDelay s.cfg.ticks s)
  | .disarm => if s.tmr.matched then .line .checkExhausted (disarmDelay s) else .wait
  | .checkExhausted => if s.seq.exhausted then .ret .noAck s else .line .poll s

/-- `stop()` and `finish(o)` in one step, the end of a transaction that failed (45_transactions.md R310,
R311). -/
def closeFailed (s : State) : State := finish s.seq.o (writeCtrl cmdStop s)

/-- The close of a transaction whose bytes all succeeded: `restart()` or `stop()`, and `finish(Ok)`, in one
step (45_transactions.md R310, R311). -/
def closeOk (s : State) : State := finish .ok (writeCtrl (if s.seq.r then cmdRestartArm else cmdStop) s)

/-- `seq.i <- i` with the loop test, which is part of the step: the line inside the loop or the close
(45_transactions.md R310, R311). -/
def setIndex (i : Half) (inside close : SeqPos) (s : State) : State :=
  State.goto (if i < s.seq.n then inside else close) { s with seq := { s.seq with i := i } }

/-- A line of `op_write` (45_transactions.md R310); `checks` is WRITE_CHECKS_START. -/
def writeOpLine (checks : Bool) (l : WriteLine) (s : State) : State :=
  match l with
  | .start l =>
    runCall (startCore s.seq.a l s) s (fun l => .write (.start l)) (keepOutcome (.write .checkStart))
  | .checkStart => if checks && s.seq.o != .ok then closeFailed s else s.goto (.write .index)
  | .index => setIndex 0#16 (.write .fetch) (.write .close) s
  | .fetch =>
    State.goto (.write (.byte .budget))
      { s with seq := { s.seq with v := s.memRead (bufAddress s.seq.p s.seq.i) } }
  | .byte l =>
    runCall (writeByteCore s.seq.v l s) s (fun l => .write (.byte l)) (keepOutcome (.write .checkByte))
  | .checkByte => if s.seq.o != .ok then closeFailed s else s.goto (.write .next)
  | .next => setIndex (s.seq.i + 1#16) (.write .fetch) (.write .close) s
  | .close => closeOk s

/-- A line of `op_read` (45_transactions.md R311). -/
def readOpLine (l : ReadLine) (s : State) : State :=
  match l with
  | .start l =>
    runCall (startCore (readAddress s.seq.a) l s) s (fun l => .read (.start l))
      (keepOutcome (.read .checkStart))
  | .checkStart => if s.seq.o != .ok then closeFailed s else s.goto (.read .index)
  | .index => setIndex 0#16 (.read .arm) (.read .close) s
  | .arm =>
    State.goto (.read (.poll .budget))
      (writeCtrl (if s.seq.i = s.seq.n - 1#16 then cmdRecvNack else cmdRecvAck) s)
  | .poll l => runCall (readByteCore l s) s (fun l => .read (.poll l)) (keepOutcome (.read .checkByte))
  | .checkByte => if s.seq.o != .ok then closeFailed s else s.goto (.read .store)
  | .store => State.goto (.read .next) (s.memWrite (bufAddress s.seq.p s.seq.i) s.seq.v)
  | .next => if s.eng.ctrl.int then setIndex (s.seq.i + 1#16) (.read .arm) (.read .close) s else s
  | .close => closeOk s

/-- The last line of `op_readByte` (44_byte_transfer.md R282). -/
def readByteEndLine (s : State) : State :=
  finish s.seq.o (if s.seq.o = .ok then { s with result := .holds s.seq.v } else s)

/-- The sequencer's step at the line it stands at; `checks` is WRITE_CHECKS_START. -/
def seqLine (checks : Bool) (s : State) : State :=
  match s.seq.pos with
  | .none => s
  | .initBitrate => (writeBitrate s.seq.a s).goto .initStatus
  | .initStatus => (writeStatus (prescalerByte s.seq.b) s).goto .initTicks
  | .initTicks => State.goto .initRetries { s with cfg := { s.cfg with ticks := s.seq.n } }
  | .initRetries => State.goto .initArm { s with cfg := { s.cfg with retries := s.seq.m } }
  | .initArm => (armDelay Config.settleTicks s).goto .initDisarm
  | .initDisarm => if s.tmr.matched then finishVoid (disarmDelay s) else s
  | .start l => runCall (startCore s.seq.a l s) s .start finish
  | .stop => finishVoid (writeCtrl cmdStop s)
  | .restart => finishVoid (writeCtrl cmdRestartArm s)
  | .writeByte l => runCall (writeByteCore s.seq.a l s) s .writeByte finish
  | .readByte l => runCall (readByteCore l s) s .readByte (keepOutcome .readByteEnd)
  | .readByteEnd => readByteEndLine s
  | .write l => writeOpLine checks l s
  | .read l => readOpLine l s
  | .delayArm => (armDelay s.seq.n s).goto .delayDisarm
  | .delayDisarm => if s.tmr.matched then finishVoid (disarmDelay s) else s

/-- The sequencer's step (00_scope.md R11): it has none while no operation runs. -/
def sequencerStep (checks : Bool) (s : State) : State := if s.seq.busy then seqLine checks s else s

end Sys2Proof.Machine
end

