-- ==== Sys2Proof/Machine/Reset.lean ====
section
/-! DEFINITION. The reset event (70_reset_and_hazards.md R370). -/

namespace Sys2Proof.Machine

/-- `reset()`: every register and hidden state at its reset value; the bus event history gains a `Release`
if the block held the bus or a command was pending; the history, the fault list, BUF and what lies outside
the block stay (70_reset_and_hazards.md R370). -/
def resetEvent (s : State) : State :=
  let t := if s.eng.phase ≠ .idle ∨ s.eng.pending.isSome then s.emit .release else s
  { State.reset with
    buf := s.buf
    events := t.events
    faults := s.faults
    readData := s.readData
    env := s.env }

end Sys2Proof.Machine
end

