-- ==== Sys2Proof/Machine/Step.lean ====
section
/-! DEFINITION. One step: the agent whose turn it is moves (00_scope.md R11, R12; 20_memory.md R84). An agent
that has no step leaves the state as it is, the turn having been taken. -/

namespace Sys2Proof.Machine

/-- One step of the whole: a register access of the host, a line of the sequencer, a completion of the engine,
a tick, the reset input, or a direct host write to BUF. -/
def step (s : State) : Host.Outcome State Fault Refusal :=
  match s.turn with
  | .host => exec (decode s.afterTurn.access) s.afterTurn.afterAccess
  | .sequencer => .next (sequencerStep Config.writeChecksStart s.afterTurn)
  | .engine => .next (engineStep s.afterTurn)
  | .timer => .next (timerStep s.afterTurn)
  | .reset => .next (resetEvent s.afterTurn)
  | .bufWrite a v => .next (s.afterTurn.memWrite a v)

/-- `s` with the access word `w` as the host's next access and the host as the agent that moves next, so that
the next step performs that access (log entry 2). An access word has one length, so `nbits` decides
nothing. -/
def State.withFetchWord (s : State) (_nbits w : Nat) : State :=
  { s with
    env := { s.env with
      turns := .host :: s.env.turns
      accesses := BitVec.ofNat 14 w :: s.env.accesses } }

end Sys2Proof.Machine
end

