-- ==== Sys2Proof/Safety.lean ====
section
/-! DEFINITION. The terms claims use: which states are coherent, who owns the bus by the event history, what
a run is and which runs are fair, and the schedules in which the timer and the engine move before each line of the
sequencer. -/

namespace Sys2Proof.Machine

/-- The phase in which a command can be pending (43_bus_primitives.md R225, R230). -/
def pendingFits : Option Cmd → Phase → Bool
  | none, _ => true
  | some (.start .s), p => p == .idle
  | some (.start .sr), p => p != .idle
  | some (.addrTx _), p => p == .addr
  | some (.dataTx _), p => p == .mt
  | some (.dataRx _), p => p == .mr

/-- DATA while a byte is being sent: it holds the byte, or was unspecified at the launch (44_byte_transfer.md R272;
10_state.md R63). -/
def dataFits : Option Cmd → DrawnByte → Bool
  | none, _ => true
  | some (.start _), _ => true
  | some (.addrTx b), d => d == .holds b || d == .unspecified
  | some (.dataTx b), d => d == .holds b || d == .unspecified
  | some (.dataRx _), _ => true

/-- The engine is coherent: while a command is pending INT is 0 and the code is NO_INFO (10_state.md R41), the
command fits the phase and DATA, and the status code is one of 30_encoding.md R120. -/
def engineOk (s : State) : Bool :=
  (s.eng.pending.isNone || (!s.eng.ctrl.int && statusCode s == scNoInfo)) &&
    pendingFits s.eng.pending s.eng.phase && dataFits s.eng.pending s.eng.data && statusCodes.contains (statusCode s)

/-- Does the block own the bus after an event, given whether it did before (43_bus_primitives.md R223)? -/
def ownsAfter (before : Bool) : Event → Bool
  | .started _ => true
  | .startFail _ _ => false
  | .stop => false
  | .release => false
  | .addr _ .arbLost => false
  | .addr _ .ack => before
  | .addr _ .nack => before
  | .tx _ .arbLost => false
  | .tx _ .ack => before
  | .tx _ .nack => before
  | .rx _ _ => before
  | .rxLost _ => false
  | .abort _ => before

/-- Who owns the bus, read off the bus event history alone. -/
def busOwned (es : List Event) : Bool := es.foldl ownsAfter false

/-- The phase tells who owns the bus as the history does (43_bus_primitives.md R223). -/
def ownershipOk (s : State) : Bool := busOwned s.events == (s.eng.phase != .idle)

/-- The operation a line belongs to, by its OPC (30_encoding.md R112). -/
def opcOf : SeqPos → BitVec 4
  | .none => 0x0#4
  | .initBitrate | .initStatus | .initTicks | .initRetries | .initArm | .initDisarm => 0x1#4
  | .start _ => 0x2#4
  | .stop => 0x3#4
  | .restart => 0x4#4
  | .writeByte _ => 0x5#4
  | .readByte _ | .readByteEnd => 0x6#4
  | .write _ => 0x7#4
  | .read _ => 0x8#4
  | .delayArm | .delayDisarm => 0x9#4

/-- Lines inside the byte loop of `op_write` or `op_read` (45_transactions.md R310, R311). -/
def insideLoop : SeqPos → Bool
  | .write .fetch | .write (.byte _) | .write .checkByte | .write .next => true
  | .read .arm | .read (.poll _) | .read .checkByte | .read .store | .read .next => true
  | .none | .initBitrate | .initStatus | .initTicks | .initRetries | .initArm | .initDisarm => false
  | .start _ | .stop | .restart | .writeByte _ | .readByte _ | .readByteEnd | .delayArm | .delayDisarm => false
  | .write (.start _) | .write .checkStart | .write .index | .write .close => false
  | .read (.start _) | .read .checkStart | .read .index | .read .close => false

/-- Lines at which a delay waits for its ticks (41_timing_source.md R186). -/
def delayWaits : SeqPos → Bool
  | .initDisarm | .delayDisarm => true
  | .none | .initBitrate | .initStatus | .initTicks | .initRetries | .initArm => false
  | .start _ | .stop | .restart | .readByteEnd | .delayArm => false
  | .writeByte l => l == .disarm
  | .readByte l => l == .disarm
  | .write (.byte l) => l == .disarm
  | .write (.start _) | .write .checkStart | .write .index | .write .fetch | .write .checkByte => false
  | .write .next | .write .close => false
  | .read (.poll l) => l == .disarm
  | .read (.start _) | .read .checkStart | .read .index | .read .arm | .read .checkByte => false
  | .read .store | .read .next | .read .close => false

/-- The sequencer is coherent: BUSY is 1 exactly while it stands at a line (10_state.md R44, R47), the line
belongs to the latched operation, and inside a byte loop the index is below the length. -/
def sequencerOk (s : State) : Bool :=
  (s.seq.busy == (s.seq.pos != .none)) && (s.seq.pos == .none || s.seq.op == opcOf s.seq.pos) &&
    (!insideLoop s.seq.pos || decide (s.seq.i < s.seq.n))

/-- A waiting delay counts, and without a match its counter is below its target (41_timing_source.md R184,
R186). -/
def delayOk (s : State) : Bool :=
  !delayWaits s.seq.pos || (s.tmr.run && (s.tmr.matched || decide (s.tmr.cnt < s.tmr.target)))

/-- STATUS.ERR is set only by a fault, which is recorded (10_state.md R33, R49). -/
def errorOk (s : State) : Bool := !s.eng.err || !s.faults.isEmpty

/-- The coherent states. -/
def State.coherent (s : State) : Bool :=
  engineOk s && ownershipOk s && sequencerOk s && delayOk s && errorOk s && Memory.wf s.buf

/-- No fault was recorded in the run so far (60_exceptions.md R357). -/
def State.faultFree (s : State) : Bool := s.faults.isEmpty

/-- Does the sequencer wait: is the guard of its next line false (43_bus_primitives.md R240)? -/
def sequencerWaits (s : State) : Bool :=
  match s.seq.pos with
  | .start .status | .start .addrStatus | .writeByte .status | .read .next => !s.eng.ctrl.int
  | .write (.start .status) | .write (.start .addrStatus) | .write (.byte .status) => !s.eng.ctrl.int
  | .read (.start .status) | .read (.start .addrStatus) => !s.eng.ctrl.int
  | p => delayWaits p && !s.tmr.matched

/-- A run: each state is the next one of the state before it. -/
def Run (r : Nat → State) : Prop := ∀ n, step (r n) = .next (r (n + 1))

/-- Weak fairness: an agent that stays enabled moves eventually (70_reset_and_hazards.md R390). -/
def WeaklyFair (r : Nat → State) (enabled : State → Bool) (agent : Turn) : Prop :=
  ∀ n, (∀ m, n ≤ m → enabled (r m) = true) → ∃ m, n ≤ m ∧ (r m).turn = agent

/-- The liveness laws of 70_reset_and_hazards.md R390: the sequencer, the timer, and the engine with a command
other than a START. -/
def Fair (r : Nat → State) : Prop :=
  WeaklyFair r (fun s => s.seq.busy && !sequencerWaits s) .sequencer ∧
    WeaklyFair r (fun s => s.tmr.run) .timer ∧
      WeaklyFair r
        (fun s =>
          match s.eng.pending with
          | some (.addrTx _) | some (.dataTx _) | some (.dataRx _) => true
          | some (.start _) | none => false)
        .engine

/-- A BusLive run: a pending START completes eventually too (43_bus_primitives.md R222). -/
def BusLive (r : Nat → State) : Prop :=
  WeaklyFair r
    (fun s =>
      match s.eng.pending with
      | some (.start _) => true
      | some (.addrTx _) | some (.dataTx _) | some (.dataRx _) | none => false)
    .engine

/-- `n` timer steps. -/
def ticks : Nat → State → State
  | 0, s => s
  | n + 1, s => ticks n (timerStep s)

/-- `n` sequencer steps, before each of which the other agents move as `others` says. -/
def schedule (others : State → State) : Nat → State → State
  | 0, s => s
  | n + 1, s => schedule others n (sequencerStep Config.writeChecksStart (others s))

/-- How many of the `n` sequencer steps of a schedule begin at the line `p`. -/
def visits (others : State → State) (p : SeqPos) : Nat → State → Nat
  | 0, _ => 0
  | n + 1, s =>
    (if (others s).seq.pos = p then 1 else 0) +
      visits others p n (sequencerStep Config.writeChecksStart (others s))

/-- `k` ticks, and the completion of the pending command, if there is one. -/
def settle (k : Nat) (s : State) : State := engineStep (ticks k s)

/-- `n` sequencer steps, before each of which the timer ticks `k` times and the engine completes a pending command. -/
def rounds (k n : Nat) (s : State) : State := schedule (settle k) n s

/-- `n` sequencer steps, before each of which the timer ticks `k` times, while the engine does not move. -/
def lines (k n : Nat) (s : State) : State := schedule (ticks k) n s

end Sys2Proof.Machine
end

