-- ==== Sys2Proof/Certificates/Slice0/Obligations.lean ====
section
/-! DEFINITION. The statements for the provers, each from the numbered rules its docstring names. A next state
is written out field by field, so a statement of a result is its frame too. Where no operation runs in it, the
sequencer's locals in it are the model's (10_state.md R46; log entry 7, DESIGN CHOICE). -/

open Sys2Proof Sys2Proof.Machine

/-! ### Encoding -/

/-- 30_encoding.md R100, R104, R112, R113: decoding the word of a well-formed instruction gives it back, every
operand at every value. -/
def Obligations.DecodeEncodeReturnsTheInstruction : Prop :=
  ∀ i : Instr, i.WellFormed → decode (encode i) = i

/-- 30_encoding.md R100, R101: encoding what a word decodes to gives the word back; of a read, whose D is
ignored, the word with D written as 0. -/
def Obligations.EncodeDecodeReturnsTheWord : Prop :=
  ∀ w : AccessWord, encode (decode w) = if AccessWord.we w then w else readWord (AccessWord.off w)

/-- 30_encoding.md R101: every access word decodes to a well-formed instruction of the one row of the opcode
table that has the word. -/
def Obligations.EveryAccessWordSelectsOneRow : Prop :=
  ∀ w : AccessWord, (decode w).WellFormed ∧ (decode w).row.admits w = true ∧
    ∀ i : Instr, i.row.admits w = true → i.row = (decode w).row

/-- Words of 95_test_vectors.md 2.1 and 2.12, one or more of each family. -/
def Obligations.SampleAccessWordsDecode : Prop :=
  decode 0x0000#14 = .rdCtrl ∧ decode 0x0500#14 = .rdTmrCntL ∧ decode 0x1F00#14 = .rdRsv1F ∧
    decode 0x2104#14 = .wrStatus 0x04#8 ∧ decode 0x3120#14 = .wrArgPH 0x20#8 ∧
      decode 0x3409#14 = .wrRoCfgRetries 0x09#8 ∧ decode 0x27FF#14 = .wrRsv07 0xFF#8 ∧
        decode 0x20A4#14 = .wrCtrlStart false false ∧ decode 0x20CC#14 = .wrCtrlTransfer true true ∧
          decode 0x2003#14 = .wrCtrlReservedLow3 false false false false false false ∧
            decode 0x2818#14 = .opReadR ∧ decode 0x280A#14 = .opReservedOpcAb 0x0A#8

/-! ### Steps -/

/-- 00_scope.md R11, R12, 30_encoding.md R100: the agent that is given the turn moves, on the state with the
turn taken. Where that is the host and its next access is `w`, the step is `exec` of what `w` decodes to, the
access taken too; `withFetchWord` sets just that. -/
def Obligations.StepMovesTheAgentWhoseTurnItIs : Prop :=
  (∀ (s : State) (ts : List Turn) (w : AccessWord) (ws : List AccessWord),
    s.env.turns = .host :: ts → s.env.accesses = w :: ws →
      step s = exec (decode w) { s with env := { s.env with turns := ts, accesses := ws } }) ∧
    (∀ (s : State) (n w : Nat), step (s.withFetchWord n w) = exec (decode (BitVec.ofNat 14 w)) s) ∧
      ∀ (s : State) (ts : List Turn),
        (s.env.turns = .sequencer :: ts →
          step s = .next (sequencerStep Config.writeChecksStart { s with env := { s.env with turns := ts } })) ∧
        (s.env.turns = .engine :: ts →
          step s = .next (engineStep { s with env := { s.env with turns := ts } })) ∧
        (s.env.turns = .timer :: ts →
          step s = .next (timerStep { s with env := { s.env with turns := ts } })) ∧
        (s.env.turns = .reset :: ts →
          step s = .next (resetEvent { s with env := { s.env with turns := ts } })) ∧
        ∀ (a : Half) (v : Byte), s.env.turns = .bufWrite a v :: ts →
          step s = .next (({ s with env := { s.env with turns := ts } } : State).memWrite a v)

/-- 60_exceptions.md R340, R349: nothing stops the machine; every step from every state answers a next
state. -/
def Obligations.EveryStepAnswersANextState : Prop :=
  ∀ s : State, ∃ t : State, step s = .next t

/-! ### Reads -/

/-- 40_register_interface.md R141, R143, R147: the reads of CTRL, STATUS and BITRATE, bit by bit. -/
def Obligations.EngineRegisterReads : Prop :=
  ∀ s : State,
    (∃ b : Byte, exec .rdCtrl s = .next { s with readData := b } ∧
      b.getLsbD 7 = s.eng.ctrl.int ∧ b.getLsbD 6 = s.eng.ctrl.ea ∧ b.getLsbD 5 = s.eng.ctrl.sta ∧
        b.getLsbD 4 = s.eng.ctrl.sto ∧ b.getLsbD 3 = s.eng.ctrl.sa ∧ b.getLsbD 2 = s.eng.ctrl.en ∧
          b.getLsbD 1 = false ∧ b.getLsbD 0 = false) ∧
    (∃ b : Byte, exec .rdStatus s = .next { s with readData := b } ∧
      b.extractLsb' 3 5 = s.eng.code ∧ b.getLsbD 2 = s.eng.err ∧ b.extractLsb' 0 2 = s.eng.ps) ∧
    exec .rdBitrate s = .next { s with readData := s.eng.bitrate }

/-- 40_register_interface.md R145, R170, 10_state.md R57, R63: a read of DATA returns what DATA holds; while a
command is pending, or where DATA is unspecified, it returns a fresh draw. A read of RESULT returns what RESULT
holds, and a fresh draw where it is unspecified. -/
def Obligations.DataAndResultReadsReturnTheByteOrADraw : Prop :=
  ∀ s : State,
    (∀ v : Byte, s.eng.pending = none → s.eng.data = .holds v →
      exec .rdData s = .next { s with readData := v }) ∧
    (s.eng.pending ≠ none ∨ s.eng.data = .unspecified →
      exec .rdData s =
        .next { s with
          readData := Config.freeByte s.env.draws
          env := { s.env with draws := s.env.draws + 1 } }) ∧
    (∀ v : Byte, s.result = .holds v → exec .rdResult s = .next { s with readData := v }) ∧
    (s.result = .unspecified →
      exec .rdResult s =
        .next { s with
          readData := Config.freeByte s.env.draws
          env := { s.env with draws := s.env.draws + 1 } })

/-- 40_register_interface.md R149, R151, R152, 20_memory.md R81: the reads of the Timing Source; the low byte's
read loads the latch that the high byte's read returns, so that the two give one snapshot of TMR_CNT, whatever
happened in between that left the latch alone. -/
def Obligations.TimingSourceReadsGiveOneSnapshot : Prop :=
  (∀ s : State,
    (∃ b : Byte, exec .rdTmrCtl s = .next { s with readData := b } ∧
      b.toNat = if s.tmr.run then 1 else 0) ∧
    (∃ lo hi : Byte,
      exec .rdTmrCntL s = .next { s with tmr := { s.tmr with hlatch := hi }, readData := lo } ∧
        hi ++ lo = s.tmr.cnt) ∧
    exec .rdTmrCntH s = .next { s with readData := s.tmr.hlatch }) ∧
    ∀ s t u v : State, exec .rdTmrCntL s = .next t → u.tmr.hlatch = t.tmr.hlatch →
      exec .rdTmrCntH u = .next v → v.readData ++ t.readData = s.tmr.cnt

/-- 40_register_interface.md R153, R155, R156, R158, R160, R162, R164, R166, R168, R171, R172, R173, 10_state.md
R61: the reads of OP, SEQ_STAT, the argument registers, CFG_TICKS and CFG_RETRIES. -/
def Obligations.SequencerRegisterReads : Prop :=
  ∀ s : State,
    exec .rdOp s = .next { s with readData := 0x00#8 } ∧
    (∃ b : Byte, exec .rdSeqStat s = .next { s with readData := b } ∧
      b.toNat = (if s.seq.busy then 1 else 0) +
        2 * (match s.seq.outcome with | .ok => 0 | .failedStart => 1 | .noAck => 2)) ∧
    exec .rdArgA s = .next { s with readData := s.args.a } ∧
    exec .rdArgB s = .next { s with readData := s.args.b } ∧
    exec .rdArgM s = .next { s with readData := s.args.m } ∧
    exec .rdArgNL s = .next { s with readData := s.args.n.extractLsb' 0 8 } ∧
    exec .rdArgNH s = .next { s with readData := s.args.n.extractLsb' 8 8 } ∧
    exec .rdArgPL s = .next { s with readData := s.args.p.extractLsb' 0 8 } ∧
    exec .rdArgPH s = .next { s with readData := s.args.p.extractLsb' 8 8 } ∧
    exec .rdCfgTicksL s = .next { s with readData := s.cfg.ticks.extractLsb' 0 8 } ∧
    exec .rdCfgTicksH s = .next { s with readData := s.cfg.ticks.extractLsb' 8 8 } ∧
    exec .rdCfgRetries s = .next { s with readData := s.cfg.retries }

/-- 40_register_interface.md R175: a read of a reserved offset returns 0x00 and has no other effect. -/
def Obligations.ReservedOffsetsReadZero : Prop :=
  ∀ s : State, ∀ i ∈ ([.rdRsv07, .rdRsv15, .rdRsv16, .rdRsv17, .rdRsv18, .rdRsv19, .rdRsv1A, .rdRsv1B, .rdRsv1C,
      .rdRsv1D, .rdRsv1E, .rdRsv1F] : List Instr),
    exec i s = .next { s with readData := 0x00#8 }

/-- 20_memory.md R73: a read changes no state of the block but the latch, and that only by a read of TMR_CNT_L;
it records no fault, emits no event and leaves every byte of BUF. -/
def Obligations.ReadsHaveNoSideEffectButTheLatch : Prop :=
  ∀ (w : AccessWord) (s : State), AccessWord.we w = false →
    ∃ t : State, exec (decode w) s = .next t ∧ t.eng = s.eng ∧ t.args = s.args ∧ t.cfg = s.cfg ∧
      t.result = s.result ∧ t.seq = s.seq ∧ t.events = s.events ∧ t.faults = s.faults ∧
        (∀ a : Half, t.memRead a = s.memRead a) ∧
          (AccessWord.off w ≠ 0x05#5 → t.tmr = s.tmr) ∧
            t.tmr = { s.tmr with hlatch := t.tmr.hlatch } ∧
              t.env = { s.env with draws := t.env.draws }

/-! ### Writes -/

/-- 40_register_interface.md R140, 60_exceptions.md R348, R344: a host write while an operation runs records
HOST_WRITE_BUSY with its offset and byte, sets ERR, and does nothing else. -/
def Obligations.HostWriteWhileBusyIsRefused : Prop :=
  ∀ (w : AccessWord) (s : State), AccessWord.we w = true → s.seq.busy = true →
    exec (decode w) s =
      .next { s with
        eng := { s.eng with err := true }
        faults := s.faults ++ [⟨.hostWriteBusy, AccessWord.off w, AccessWord.d w⟩] }

/-- 40_register_interface.md R157, R159, R161, R163, R165, R167, R169, 20_memory.md R78: the byte argument
registers take the byte written; each half of ARG_N and ARG_P takes it, and the other half stays. -/
def Obligations.ArgumentWritesStore : Prop :=
  ∀ (v : Byte) (s : State), s.seq.busy = false →
    exec (.wrArgA v) s = .next { s with args := { s.args with a := v } } ∧
    exec (.wrArgB v) s = .next { s with args := { s.args with b := v } } ∧
    exec (.wrArgM v) s = .next { s with args := { s.args with m := v } } ∧
    (∃ n : Half, exec (.wrArgNL v) s = .next { s with args := { s.args with n := n } } ∧
      n.toNat = s.args.n.toNat / 256 * 256 + v.toNat) ∧
    (∃ n : Half, exec (.wrArgNH v) s = .next { s with args := { s.args with n := n } } ∧
      n.toNat = v.toNat * 256 + s.args.n.toNat % 256) ∧
    (∃ p : Half, exec (.wrArgPL v) s = .next { s with args := { s.args with p := p } } ∧
      p.toNat = s.args.p.toNat / 256 * 256 + v.toNat) ∧
    ∃ p : Half, exec (.wrArgPH v) s = .next { s with args := { s.args with p := p } } ∧
      p.toNat = v.toNat * 256 + s.args.p.toNat % 256

/-- 40_register_interface.md R144: an accepted STATUS write sets PS and, with bit 2, clears ERR; one made while
a command is pending is refused with ENGINE_BUSY. -/
def Obligations.StatusWriteSetsPrescalerAndClearsError : Prop :=
  ∀ (v : Byte) (s : State), s.seq.busy = false →
    (s.eng.pending = none →
      exec (.wrStatus v) s =
        .next { s with
          eng := { s.eng with
            ps := v.extractLsb' 0 2
            err := s.eng.err && !v.getLsbD 2 } }) ∧
    (s.eng.pending ≠ none →
      exec (.wrStatus v) s =
        .next { s with
          eng := { s.eng with err := true }
          faults := s.faults ++ [⟨.engineBusy, 0x01#5, v⟩] })

/-- 40_register_interface.md R146, R148: DATA and BITRATE take the byte written; while a command is pending the
write is refused with ENGINE_BUSY. -/
def Obligations.DataAndBitrateWritesStore : Prop :=
  ∀ (v : Byte) (s : State), s.seq.busy = false →
    (s.eng.pending = none →
      exec (.wrData v) s = .next { s with eng := { s.eng with data := .holds v } } ∧
      exec (.wrBitrate v) s = .next { s with eng := { s.eng with bitrate := v } }) ∧
    (s.eng.pending ≠ none →
      exec (.wrData v) s =
        .next { s with
          eng := { s.eng with err := true }
          faults := s.faults ++ [⟨.engineBusy, 0x02#5, v⟩] } ∧
      exec (.wrBitrate v) s =
        .next { s with
          eng := { s.eng with err := true }
          faults := s.faults ++ [⟨.engineBusy, 0x03#5, v⟩] })

/-- 40_register_interface.md R150: bit 0 of a TMR_CTL write is RUN, bit 1 clears TMR_CNT, the others are
ignored. -/
def Obligations.TimerControlWriteRunsAndClears : Prop :=
  ∀ (v : Byte) (s : State), s.seq.busy = false →
    exec (.wrTmrCtl v) s =
      .next { s with
        tmr := { s.tmr with
          run := v.getLsbD 0
          cnt := if v.getLsbD 1 = true then 0#16 else s.tmr.cnt } }

/-- 40_register_interface.md R174, R176: a write to a read-only register or a reserved offset is ignored. -/
def Obligations.ReadOnlyAndReservedWritesAreIgnored : Prop :=
  ∀ (v : Byte) (s : State), s.seq.busy = false →
    ∀ i ∈ ([.wrRoTmrCntL v, .wrRoTmrCntH v, .wrRoSeqStat v, .wrRoResult v, .wrRoCfgTicksL v, .wrRoCfgTicksH v,
        .wrRoCfgRetries v, .wrRsv07 v, .wrRsv15 v, .wrRsv16 v, .wrRsv17 v, .wrRsv18 v, .wrRsv19 v, .wrRsv1A v,
        .wrRsv1B v, .wrRsv1C v, .wrRsv1D v, .wrRsv1E v, .wrRsv1F v] : List Instr),
      exec i s = .next s

/-! ### CTRL commands -/

/-- 43_bus_primitives.md R234: a CTRL byte with bit 1 or bit 0 set is refused with CTRL_RESERVED, busy engine or
not; one with STA and STO in a launching byte is refused with CTRL_RESERVED, or with ENGINE_BUSY while a command
is pending. Nothing else changes. -/
def Obligations.ReservedCtrlBytesAreRefused : Prop :=
  ∀ (int ea sta sto sa en : Bool) (s : State), s.seq.busy = false →
    (∀ i ∈ ([(.wrCtrlReservedLow1 int ea sta sto sa en, ctrlByte int ea sta sto sa en 1#2),
          (.wrCtrlReservedLow2 int ea sta sto sa en, ctrlByte int ea sta sto sa en 2#2),
          (.wrCtrlReservedLow3 int ea sta sto sa en, ctrlByte int ea sta sto sa en 3#2)] : List (Instr × Byte)),
      exec i.1 s =
        .next { s with
          eng := { s.eng with err := true }
          faults := s.faults ++ [⟨.ctrlReserved, 0x00#5, i.2⟩] }) ∧
    exec (.wrCtrlReservedStasto ea sa) s =
      .next { s with
        eng := { s.eng with err := true }
        faults := s.faults ++
          [⟨if s.eng.pending = none then .ctrlReserved else .engineBusy, 0x00#5,
            ctrlByte true ea true true sa true 0#2⟩] }

/-- 40_register_interface.md R142, 60_exceptions.md R345: a CTRL write other than a STOP or a reserved byte is
refused with ENGINE_BUSY while a command is pending. -/
def Obligations.CtrlWriteWhileCommandPendingIsRefused : Prop :=
  ∀ (int ea sta sto sa : Bool) (s : State), s.seq.busy = false → s.eng.pending ≠ none →
    ∀ i ∈ ([(.wrCtrlDisable int ea sta sto sa, ctrlByte int ea sta sto sa false 0#2),
        (.wrCtrlLatch ea sta sto sa, ctrlByte false ea sta sto sa true 0#2),
        (.wrCtrlTransfer ea sa, ctrlByte true ea false false sa true 0#2),
        (.wrCtrlStart ea sa, ctrlByte true ea true false sa true 0#2)] : List (Instr × Byte)),
      exec i.1 s =
        .next { s with
          eng := { s.eng with err := true }
          faults := s.faults ++ [⟨.engineBusy, 0x00#5, i.2⟩] }

/-- 43_bus_primitives.md R233: a DISABLE write stores the fields, lets go of an owned bus with a Release and
leaves INT 0, the code NO_INFO and the phase IDLE. -/
def Obligations.DisableReleasesTheBus : Prop :=
  ∀ (int ea sta sto sa : Bool) (s : State), s.seq.busy = false → s.eng.pending = none →
    exec (.wrCtrlDisable int ea sta sto sa) s =
      .next { s with
        eng := { s.eng with ctrl := ⟨false, ea, sta, sto, sa, false⟩, code := 0x1F#5, phase := .idle }
        events := if s.eng.phase = .idle then s.events else s.events ++ [.release] }

/-- 43_bus_primitives.md R232: a LATCH write stores the fields and does nothing else; INT keeps its value. -/
def Obligations.LatchStoresTheFields : Prop :=
  ∀ (ea sta sto sa : Bool) (s : State), s.seq.busy = false → s.eng.pending = none →
    exec (.wrCtrlLatch ea sta sto sa) s =
      .next { s with eng := { s.eng with ctrl := ⟨s.eng.ctrl.int, ea, sta, sto, sa, true⟩ } }

/-- 43_bus_primitives.md R230, R231, R224, 44_byte_transfer.md R274, 42_configuration.md R202: a TRANSFER sends
DATA as an address byte in ADDR and as a data byte in MT, receives in MR with ACK selected exactly when EA and SA
are both 1, and is a CMD_ERROR in IDLE and MR_HOLD. Where DATA is unspecified the byte sent is a draw
(10_state.md R63). That a CMD_ERROR reads the rate is the model's reading of 30_encoding.md R106 (log entry 9). -/
def Obligations.TransferActsByPhase : Prop :=
  ∀ (ea sa : Bool) (s : State), s.seq.busy = false → s.eng.pending = none →
    let launched (c : Cmd) (n : Nat) : State :=
      { s with
        eng := { s.eng with
          ctrl := ⟨false, ea, false, false, sa, true⟩
          code := 0x1F#5
          pending := some c
          divisor := 16 + 2 * s.eng.bitrate.toNat * 4 ^ s.eng.ps.toNat }
        env := { s.env with draws := s.env.draws + n } }
    (∀ b : Byte, s.eng.data = .holds b →
      (s.eng.phase = .addr → exec (.wrCtrlTransfer ea sa) s = .next (launched (.addrTx b) 0)) ∧
      (s.eng.phase = .mt → exec (.wrCtrlTransfer ea sa) s = .next (launched (.dataTx b) 0))) ∧
    (s.eng.data = .unspecified →
      (s.eng.phase = .addr →
        exec (.wrCtrlTransfer ea sa) s = .next (launched (.addrTx (Config.freeByte s.env.draws)) 1)) ∧
      (s.eng.phase = .mt →
        exec (.wrCtrlTransfer ea sa) s = .next (launched (.dataTx (Config.freeByte s.env.draws)) 1))) ∧
    (s.eng.phase = .mr → exec (.wrCtrlTransfer ea sa) s = .next (launched (.dataRx (ea && sa)) 0)) ∧
    (s.eng.phase = .idle ∨ s.eng.phase = .mrHold →
      exec (.wrCtrlTransfer ea sa) s =
        .next { s with
          eng := { s.eng with
            ctrl := ⟨true, ea, false, false, sa, true⟩
            code := 0x1E#5
            divisor := 16 + 2 * s.eng.bitrate.toNat * 4 ^ s.eng.ps.toNat } })

/-- 43_bus_primitives.md R227, 30_encoding.md R106, 42_configuration.md R202: a STOP with nothing pending emits P if the
block owns the bus, and leaves STO and INT 0, the code NO_INFO and the phase IDLE; a launch, it reads the rate. -/
def Obligations.StopReleasesTheBus : Prop :=
  ∀ (ea sa : Bool) (s : State), s.seq.busy = false → s.eng.pending = none →
    exec (.wrCtrlStop ea sa) s =
      .next { s with
        eng := { s.eng with
          ctrl := ⟨false, ea, false, false, sa, true⟩
          code := 0x1F#5
          phase := .idle
          divisor := 16 + 2 * s.eng.bitrate.toNat * 4 ^ s.eng.ps.toNat }
        events := if s.eng.phase = .idle then s.events else s.events ++ [.stop] }

/-- 43_bus_primitives.md R228, 30_encoding.md R106, 42_configuration.md R202: a STOP while a command is pending abandons
it: Abort, then P; nothing pending, phase IDLE, and DATA unspecified if the command was a receive; a launch, it reads
the rate. -/
def Obligations.StopAbortsAPendingCommand : Prop :=
  ∀ (ea sa : Bool) (c : Cmd) (s : State), s.seq.busy = false → s.eng.pending = some c →
    exec (.wrCtrlStop ea sa) s =
      .next { s with
        eng := { s.eng with
          ctrl := ⟨false, ea, false, false, sa, true⟩
          code := 0x1F#5
          phase := .idle
          pending := none
          divisor := 16 + 2 * s.eng.bitrate.toNat * 4 ^ s.eng.ps.toNat
          data := if c = .dataRx true ∨ c = .dataRx false then .unspecified else s.eng.data }
        events := s.events ++ [.abort c, .stop] }

/-- 43_bus_primitives.md R225, R224, 42_configuration.md R202: a START launches S from IDLE and Sr from an owner
phase; INT is 0 and the code NO_INFO while it is pending. -/
def Obligations.StartLaunchesByPhase : Prop :=
  ∀ (ea sa : Bool) (s : State), s.seq.busy = false → s.eng.pending = none →
    exec (.wrCtrlStart ea sa) s =
      .next { s with
        eng := { s.eng with
          ctrl := ⟨false, ea, true, false, sa, true⟩
          code := 0x1F#5
          pending := some (.start (if s.eng.phase = .idle then .s else .sr))
          divisor := 16 + 2 * s.eng.bitrate.toNat * 4 ^ s.eng.ps.toNat } }

/-! ### OP writes -/

/-- 40_register_interface.md R154, 30_encoding.md R112, 10_state.md R45: an OP write latches the operation and the
arguments, sets BUSY and puts the sequencer at the operation's first line, whether or not a command is pending. That
the sequencer's locals, which 10_state.md R46 leaves unspecified between operations, are kept over the OP write is
the model's choice (log entry 7, DESIGN CHOICE). -/
def Obligations.OperationWritesLatchAndStart : Prop :=
  ∀ s : State, s.seq.busy = false →
    ∀ x ∈ ([(.opInit, 0x1#4, false, .initBitrate), (.opStart, 0x2#4, false, .start .command),
        (.opStop, 0x3#4, false, .stop), (.opRestart, 0x4#4, false, .restart),
        (.opWriteByte, 0x5#4, false, .writeByte .budget), (.opReadByte, 0x6#4, false, .readByte .budget),
        (.opWrite, 0x7#4, false, .write (.start .command)), (.opWriteR, 0x7#4, true, .write (.start .command)),
        (.opRead, 0x8#4, false, .read (.start .command)), (.opReadR, 0x8#4, true, .read (.start .command)),
        (.opDelay, 0x9#4, false, .delayArm)] : List (Instr × BitVec 4 × Bool × SeqPos)),
      exec x.1 s =
        .next { s with
          seq := { s.seq with
            op := x.2.1
            r := x.2.2.1
            a := s.args.a
            b := s.args.b
            m := s.args.m
            n := s.args.n
            p := s.args.p
            busy := true
            pos := x.2.2.2 } }

/-- 30_encoding.md R113, 40_register_interface.md R154: a reserved OP byte is refused with OP_RESERVED and
starts nothing. -/
def Obligations.ReservedOpBytesAreRefused : Prop :=
  ∀ (v : Byte) (s : State), s.seq.busy = false →
    ∀ x ∈ ([(.opReservedHi80 v, v), (.opReservedHi40 v, v), (.opReservedHi20 v, v), (.opReservedOpc0 v, v),
        (.opReservedOpcAb v, v), (.opReservedOpcCf v, v), (.opReservedR11, 0x11#8), (.opReservedR12 v, v),
        (.opReservedR14 v, v), (.opReservedR16, 0x16#8), (.opReservedR19, 0x19#8)] : List (Instr × Byte)),
      exec x.1 s =
        .next { s with
          eng := { s.eng with err := true }
          faults := s.faults ++ [⟨.opReserved, 0x08#5, x.2⟩] }

/-- 20_memory.md R75, R70: no register access reaches BUF: after any access every byte of BUF reads as
before. -/
def Obligations.NoAccessChangesBuf : Prop :=
  ∀ (i : Instr) (s t : State), exec i s = .next t → ∀ a : Half, t.memRead a = s.memRead a

/-- 60_exceptions.md R348: a host access made while an operation runs leaves the operation undisturbed: the
sequencer, the engine but ERR, the timer but the latch, the configuration, RESULT and the event history stay. -/
def Obligations.HostCannotDisturbAnOperation : Prop :=
  ∀ (i : Instr) (s t : State), s.seq.busy = true → exec i s = .next t →
    t.seq = s.seq ∧ t.eng = { s.eng with err := t.eng.err } ∧ t.tmr = { s.tmr with hlatch := t.tmr.hlatch } ∧
      t.cfg = s.cfg ∧ t.args = s.args ∧ t.result = s.result ∧ t.events = s.events

/-! ### The engine -/

/-- 43_bus_primitives.md R226, R229: the completion of a START, by the answer of the environment. -/
def Obligations.StartCompletes : Prop :=
  ∀ (k : StartKind) (s : State), s.eng.pending = some (.start k) →
    let done (e : Event) (code : BitVec 5) (p : Phase) : State :=
      { s.afterStart with
        eng := { s.eng with
          ctrl := { s.eng.ctrl with int := true }
          code := code
          phase := p
          pending := none }
        events := s.events ++ [e] }
    (s.startAnswer = .done →
      engineStep s = done (.started k) (if k = .s then 0x01#5 else 0x02#5) .addr) ∧
    (s.startAnswer = .arbLost → engineStep s = done (.startFail k .arbLost) 0x07#5 .idle) ∧
    (s.startAnswer = .busError → engineStep s = done (.startFail k .busError) 0x00#5 .idle)

/-- 43_bus_primitives.md R236, R237, R229, 44_byte_transfer.md R272: the completion of an address byte: bit 0 selects
the direction, and DATA holds the byte, whatever the answer; a byte that DATA held at a coherent engine is that byte.
-/
def Obligations.AddressByteCompletes : Prop :=
  ∀ (b : Byte) (s : State), s.eng.pending = some (.addrTx b) →
    let done (r : TxAnswer) (code : BitVec 5) (p : Phase) : State :=
      { s.afterTx with
        eng := { s.eng with
          ctrl := { s.eng.ctrl with int := true }
          code := code
          phase := p
          pending := none
          data := .holds b }
        events := s.events ++ [.addr b r] }
    (∀ c : Byte, engineOk s = true → s.eng.data = .holds c → c = b) ∧
    (s.txAnswer = .ack → b.getLsbD 0 = false → engineStep s = done .ack 0x03#5 .mt) ∧
    (s.txAnswer = .ack → b.getLsbD 0 = true → engineStep s = done .ack 0x08#5 .mr) ∧
    (s.txAnswer = .nack → b.getLsbD 0 = false → engineStep s = done .nack 0x04#5 .mt) ∧
    (s.txAnswer = .nack → b.getLsbD 0 = true → engineStep s = done .nack 0x09#5 .mrHold) ∧
    (s.txAnswer = .arbLost → engineStep s = done .arbLost 0x07#5 .idle)

/-- 44_byte_transfer.md R271, R272, 43_bus_primitives.md R237, R229: the completion of a data byte; DATA holds the byte,
whatever the answer; a byte that DATA held at a coherent engine is that byte. -/
def Obligations.DataByteCompletes : Prop :=
  ∀ (b : Byte) (s : State), s.eng.pending = some (.dataTx b) →
    let done (r : TxAnswer) (code : BitVec 5) (p : Phase) : State :=
      { s.afterTx with
        eng := { s.eng with
          ctrl := { s.eng.ctrl with int := true }
          code := code
          phase := p
          pending := none
          data := .holds b }
        events := s.events ++ [.tx b r] }
    (∀ c : Byte, engineOk s = true → s.eng.data = .holds c → c = b) ∧
    (s.txAnswer = .ack → engineStep s = done .ack 0x05#5 s.eng.phase) ∧
    (s.txAnswer = .nack → engineStep s = done .nack 0x06#5 s.eng.phase) ∧
    (s.txAnswer = .arbLost → engineStep s = done .arbLost 0x07#5 .idle)

/-- 44_byte_transfer.md R273, 43_bus_primitives.md R237, R229: the completion of a receive: the byte goes to
DATA and the acknowledge selected at the launch is returned; a lost receive leaves DATA unspecified. -/
def Obligations.ReceiveCompletes : Prop :=
  ∀ (ack : Bool) (s : State), s.eng.pending = some (.dataRx ack) →
    let done (e : Event) (d : DrawnByte) (code : BitVec 5) (p : Phase) : State :=
      { s.afterRx with
        eng := { s.eng with
          ctrl := { s.eng.ctrl with int := true }
          code := code
          phase := p
          pending := none
          data := d }
        events := s.events ++ [e] }
    (∀ v : Byte, s.rxAnswer = .byte v → ack = true →
      engineStep s = done (.rx v .ack) (.holds v) 0x0A#5 .mr) ∧
    (∀ v : Byte, s.rxAnswer = .byte v → ack = false →
      engineStep s = done (.rx v .nack) (.holds v) 0x0B#5 .mrHold) ∧
    (s.rxAnswer = .arbLost → engineStep s = done (.rxLost ack) .unspecified 0x07#5 .idle)

/-- 10_state.md R41, 43_bus_primitives.md R229: a pending command stays pending as it is until it is over; no
step replaces it by another. -/
def Obligations.PendingCommandIsNeverReplaced : Prop :=
  ∀ (s t : State) (c : Cmd), s.eng.pending = some c → step s = .next t →
    t.eng.pending = some c ∨ t.eng.pending = none

/-! ### The Timing Source -/

/-- 41_timing_source.md R181, R183: a tick counts modulo 2^16 while RUN is 1 and sets the match on reaching the
target; without RUN the timer has no step. -/
def Obligations.TimerTicks : Prop :=
  ∀ s : State,
    (s.tmr.run = false → timerStep s = s) ∧
    (s.tmr.run = true → ∃ c : Half, c.toNat = (s.tmr.cnt.toNat + 1) % 65536 ∧
      timerStep s = { s with tmr := { s.tmr with cnt := c, matched := s.tmr.matched || c == s.tmr.target } })

/-- 41_timing_source.md R186, R184: after a delay of `n` is armed, the match is not set before the `n`-th tick
and is set from the `n`-th tick on. -/
def Obligations.DelayMatchesAtItsTarget : Prop :=
  ∀ (n : Half) (k : Nat) (s : State), (ticks k (armDelay n s)).tmr.matched = decide (n.toNat ≤ k)

/-- 41_timing_source.md R185, R186: the operation `delay` arms in one step, waits for the match, and ends with the
disarm; OUTCOME is unchanged. That the sequencer's locals, which 10_state.md R46 leaves unspecified between
operations, are kept over the end of the operation is the model's choice (log entry 7, DESIGN CHOICE). -/
def Obligations.DelayOperationArmsWaitsAndEnds : Prop :=
  ∀ (checks : Bool) (s : State), s.seq.busy = true →
    (s.seq.pos = .delayArm →
      sequencerStep checks s =
        { s with
          tmr := { s.tmr with run := true, cnt := 0#16, target := s.seq.n, matched := s.seq.n == 0#16 }
          seq := { s.seq with pos := .delayDisarm } }) ∧
    (s.seq.pos = .delayDisarm → s.tmr.matched = false → sequencerStep checks s = s) ∧
    (s.seq.pos = .delayDisarm → s.tmr.matched = true →
      sequencerStep checks s =
        { s with
          tmr := { s.tmr with run := false }
          seq := { s.seq with busy := false, pos := .none } })

/-! ### Configuration -/

/-- 42_configuration.md R201, R203: the first five lines of `init`, with no command pending, set BITRATE, the
prescaler modulo 4, CFG_TICKS and CFG_RETRIES and arm the settle delay; with a command pending the two engine writes
are refused and the rest happens all the same. The last line waits for the match, stops the timer and ends the
operation, OUTCOME unchanged. That the sequencer's locals, which 10_state.md R46 leaves unspecified between
operations, are kept over the end of the operation is the model's choice (log entry 7, DESIGN CHOICE); the count of
lines is the model's (log entry 12). -/
def Obligations.InitWritesTheConfiguration : Prop :=
  ∀ s : State, s.seq.busy = true →
    let armed (e : Eng) (fs : List FaultRecord) : State :=
      { s with
        eng := e
        faults := fs
        cfg := ⟨s.seq.n, s.seq.m⟩
        tmr := { s.tmr with
          run := true
          cnt := 0#16
          target := Config.settleTicks
          matched := Config.settleTicks == 0#16 }
        seq := { s.seq with pos := .initDisarm } }
    (s.seq.pos = .initBitrate → s.eng.pending = none → ∃ ps : BitVec 2, ps.toNat = s.seq.b.toNat % 4 ∧
      lines 0 5 s = armed { s.eng with bitrate := s.seq.a, ps := ps } s.faults) ∧
    (s.seq.pos = .initBitrate → s.eng.pending ≠ none →
      lines 0 5 s =
        armed { s.eng with err := true }
          (s.faults ++ [⟨.engineBusy, 0x03#5, s.seq.a⟩, ⟨.engineBusy, 0x01#5, s.seq.b &&& 0x03#8⟩])) ∧
    ∀ checks : Bool, s.seq.pos = .initDisarm →
      (s.tmr.matched = false → sequencerStep checks s = s) ∧
      (s.tmr.matched = true →
        sequencerStep checks s =
          { s with
            tmr := { s.tmr with run := false }
            seq := { s.seq with busy := false, pos := .none } })

/-- 42_configuration.md R207, R202: the divisors of the rule; the divisor is never 0 and at most 32656. -/
def Obligations.BusClockDivisors : Prop :=
  (∀ ps : BitVec 2, Config.divisorOf 0#8 ps = 16) ∧ Config.divisorOf 8#8 0#2 = 32 ∧
    Config.divisorOf 8#8 1#2 = 80 ∧ Config.divisorOf 72#8 0#2 = 160 ∧ Config.divisorOf 255#8 3#2 = 32656 ∧
      ∀ (b : Byte) (ps : BitVec 2), Config.divisorOf b ps ≠ 0 ∧ Config.divisorOf b ps ≤ 32656

/-- 10_state.md R58, R59, 42_configuration.md R200: CFG_TICKS and CFG_RETRIES change only at a line of `init`
or by reset. -/
def Obligations.ConfigurationChangesOnlyByInit : Prop :=
  ∀ s t : State, step s = .next t → t.cfg ≠ s.cfg →
    s.turn = .reset ∨
      (s.turn = .sequencer ∧ s.seq.busy = true ∧ (s.seq.pos = .initTicks ∨ s.seq.pos = .initRetries))

/-! ### Operations -/

/-- 43_bus_primitives.md R251, R252, R253, R228: `stop` and `restart` are one sequencer step each; with nothing
pending `stop` is the STOP command and `restart` only latches STA and EN; a pending command is aborted by `stop` and
makes the arm of `restart` refused. OUTCOME is unchanged. That the sequencer's locals, which 10_state.md R46 leaves
unspecified between operations, are kept over the end of the operation is the model's choice (log entry 7, DESIGN
CHOICE). That a STOP reads the rate is log entry 9. -/
def Obligations.StopAndRestartAreOneStep : Prop :=
  ∀ (checks : Bool) (s : State), s.seq.busy = true →
    (s.seq.pos = .stop → s.eng.pending = none →
      sequencerStep checks s =
        { s with
          eng := { s.eng with
            ctrl := ⟨false, false, false, false, false, true⟩
            code := 0x1F#5
            phase := .idle
            divisor := 16 + 2 * s.eng.bitrate.toNat * 4 ^ s.eng.ps.toNat }
          events := if s.eng.phase = .idle then s.events else s.events ++ [.stop]
          seq := { s.seq with busy := false, pos := .none } }) ∧
    (∀ c : Cmd, s.seq.pos = .stop → s.eng.pending = some c →
      sequencerStep checks s =
        { s with
          eng := { s.eng with
            ctrl := ⟨false, false, false, false, false, true⟩
            code := 0x1F#5
            phase := .idle
            pending := none
            divisor := 16 + 2 * s.eng.bitrate.toNat * 4 ^ s.eng.ps.toNat
            data := if c = .dataRx true ∨ c = .dataRx false then .unspecified else s.eng.data }
          events := s.events ++ [.abort c, .stop]
          seq := { s.seq with busy := false, pos := .none } }) ∧
    (s.seq.pos = .restart → s.eng.pending = none →
      sequencerStep checks s =
        { s with
          eng := { s.eng with ctrl := ⟨s.eng.ctrl.int, false, true, false, false, true⟩ }
          seq := { s.seq with busy := false, pos := .none } }) ∧
    (s.seq.pos = .restart → s.eng.pending ≠ none →
      sequencerStep checks s =
        { s with
          eng := { s.eng with err := true }
          faults := s.faults ++ [⟨.engineBusy, 0x00#5, 0x24#8⟩]
          seq := { s.seq with busy := false, pos := .none } })

/-- 43_bus_primitives.md R250, 45_transactions.md R310, R311: with the engine completing each command before the
next line, `start`, and the start of `write` and of `read`, emits its START and its address byte and returns Ok,
NoAck or FailedStart by the answers; a failed start issues no STOP. The count of lines is the model's (log entry
12). -/
def Obligations.StartOperationReturnsByItsAnswers : Prop :=
  ∀ (k : Nat) (b : Byte) (s : State), s.seq.busy = true → s.eng.pending = none →
    (s.seq.pos = .start .command ∧ s.seq.op = 0x2#4 ∧ b = s.seq.a ∨
      s.seq.pos = .write (.start .command) ∧ b = s.seq.a ∨
      s.seq.pos = .read (.start .command) ∧ b.toNat = (s.seq.a.toNat + 1) % 256) →
    let kind : StartKind := if s.eng.phase = .idle then .s else .sr
    let returned (n : Nat) (o : TransferOutcome) (es : List Event) (p : Phase) : Prop :=
      (s.seq.pos = .start .command → (rounds k n s).seq.busy = false ∧ (rounds k n s).seq.outcome = o) ∧
      (s.seq.pos = .write (.start .command) → (rounds k n s).seq.busy = true ∧
        (rounds k n s).seq.pos = .write .checkStart ∧ (rounds k n s).seq.o = o) ∧
      (s.seq.pos = .read (.start .command) → (rounds k n s).seq.busy = true ∧
        (rounds k n s).seq.pos = .read .checkStart ∧ (rounds k n s).seq.o = o) ∧
      (rounds k n s).events = s.events ++ es ∧ (rounds k n s).eng.phase = p ∧ (rounds k n s).eng.pending = none ∧
        (rounds k n s).faults = s.faults
    (∀ (xs : List StartAnswer) (ys : List TxAnswer), s.env.starts = .done :: xs → s.env.txs = .ack :: ys →
      returned 8 .ok [.started kind, .addr b .ack] (if b.getLsbD 0 then .mr else .mt)) ∧
    (∀ (xs : List StartAnswer) (ys : List TxAnswer), s.env.starts = .done :: xs → s.env.txs = .nack :: ys →
      returned 7 .noAck [.started kind, .addr b .nack] (if b.getLsbD 0 then .mrHold else .mt)) ∧
    (∀ (xs : List StartAnswer) (ys : List TxAnswer), s.env.starts = .done :: xs → s.env.txs = .arbLost :: ys →
      returned 7 .noAck [.started kind, .addr b .arbLost] .idle) ∧
    (∀ xs : List StartAnswer, s.env.starts = .busError :: xs →
      returned 3 .failedStart [.startFail kind .busError] .idle) ∧
    ∀ xs : List StartAnswer, s.env.starts = .arbLost :: xs →
      returned 3 .failedStart [.startFail kind .arbLost] .idle

/-- 44_byte_transfer.md R280, R281, R284: with `k` ticks and the completion of a pending command before each line,
`k` being at least CFG_TICKS, a `writeByte` in any phase and whatever the environment answers ends with Ok after at
most `r + 1` attempts and a delay fewer, the last answer an acknowledge, or with NoAck after exactly `r + 1`
attempts and as many delays, `r` being CFG_RETRIES. It ends with NoAck in phase MT if every attempt is NACKed, in
IDLE and MR_HOLD (every attempt a CMD_ERROR), and where arbitration is lost after `j` NACKs (the later attempts are
CMD_ERRORs). The count of lines is the model's (log entry 12). -/
def Obligations.WriteByteMakesRetriesPlusOneAttempts : Prop :=
  ∀ (k : Nat) (s : State), s.seq.busy = true → s.seq.op = 0x5#4 → s.seq.pos = .writeByte .budget →
    s.eng.pending = none → s.cfg.ticks.toNat ≤ k →
    let r := s.cfg.retries.toNat
    let n := 1 + 8 * (r + 1)
    let t := rounds k n s
    let attempts := visits (settle k) (.writeByte .transmit) n s
    let delays := visits (settle k) (.writeByte .arm) n s
    (t.seq.busy = false ∧
      (t.seq.outcome = .noAck ∧ attempts = r + 1 ∧ delays = r + 1 ∨
        t.seq.outcome = .ok ∧ attempts ≤ r + 1 ∧ attempts = delays + 1 ∧
          t.events.getLast? = some (.tx s.seq.a .ack))) ∧
    (∀ xs : List TxAnswer, s.eng.phase = .mt → s.env.txs = List.replicate (r + 1) .nack ++ xs →
      t.seq.outcome = .noAck ∧ t.eng.phase = .mt ∧
        t.events = s.events ++ List.replicate (r + 1) (.tx s.seq.a .nack)) ∧
    (s.eng.phase = .idle ∨ s.eng.phase = .mrHold →
      t.seq.outcome = .noAck ∧ t.eng.phase = s.eng.phase ∧ t.eng.code = 0x1E#5 ∧ t.events = s.events) ∧
    ∀ (j : Nat) (xs : List TxAnswer), s.eng.phase = .mt → j ≤ r →
      s.env.txs = List.replicate j .nack ++ .arbLost :: xs →
      t.seq.outcome = .noAck ∧ t.eng.phase = .idle ∧
        t.events = s.events ++ List.replicate j (.tx s.seq.a .nack) ++ [.tx s.seq.a .arbLost]

/-- 44_byte_transfer.md R280, R281, R284: a `writeByte` in phase MT stops at the first acknowledged attempt: after
`j` NACKs, `j` at most CFG_RETRIES, and an ACK it returns Ok after `j + 1` attempts and `j` delays and makes no
further attempt. The count of lines is the model's (log entry 12). -/
def Obligations.WriteByteStopsAtTheFirstAck : Prop :=
  ∀ (k j : Nat) (xs : List TxAnswer) (s : State), s.seq.busy = true → s.seq.op = 0x5#4 →
    s.seq.pos = .writeByte .budget → s.eng.pending = none → s.eng.phase = .mt → s.cfg.ticks.toNat ≤ k →
    j ≤ s.cfg.retries.toNat → s.env.txs = List.replicate j .nack ++ .ack :: xs →
    let n := 1 + 8 * j + 4
    let t := rounds k n s
    t.seq.busy = false ∧ t.seq.outcome = .ok ∧ t.env.txs = xs ∧
      visits (settle k) (.writeByte .transmit) n s = j + 1 ∧ visits (settle k) (.writeByte .arm) n s = j ∧
      t.events = s.events ++ List.replicate j (.tx s.seq.a .nack) ++ [.tx s.seq.a .ack]

/-- 44_byte_transfer.md R280, R282, R284: a `readByte` whose first poll sees a received byte returns Ok with the
byte in RESULT, in five lines, and changes nothing but RESULT and the sequencer; one whose receive completes after
`j` failed polls, `j` at most CFG_RETRIES, has made `j` delays by then and returns that byte at its next poll. The
values of the sequencer's locals after the end of the operation, which 10_state.md R46 leaves unspecified between
operations, are the model's choice (log entry 7, DESIGN CHOICE); the count of lines is the model's (log entry 12).
-/
def Obligations.ReadByteReturnsTheReceivedByte : Prop :=
  ∀ (v : Byte) (s : State), s.seq.busy = true → s.seq.op = 0x6#4 → s.seq.pos = .readByte .budget →
    (s.eng.pending = none → s.eng.data = .holds v → (s.eng.code = 0x0A#5 ∨ s.eng.code = 0x0B#5) →
      lines 0 5 s =
        { s with
          result := .holds v
          seq := { s.seq with
            c := s.cfg.retries
            sc := statusCode s
            v := v
            o := .ok
            outcome := .ok
            busy := false
            pos := .none } }) ∧
    ∀ (k j : Nat) (ack : Bool) (xs : List RxAnswer), s.eng.pending = some (.dataRx ack) →
      s.eng.code ≠ 0x0A#5 → s.eng.code ≠ 0x0B#5 → s.cfg.ticks.toNat ≤ k → j ≤ s.cfg.retries.toNat →
      s.env.rxs = .byte v :: xs →
      let u := lines k (1 + 5 * j) s
      let t := lines k 4 (engineStep u)
      u.seq.busy = true ∧ u.seq.pos = .readByte .poll ∧
        visits (ticks k) (.readByte .poll) (1 + 5 * j) s = j ∧
        visits (ticks k) (.readByte .arm) (1 + 5 * j) s = j ∧
        t.seq.busy = false ∧ t.seq.outcome = .ok ∧ t.result = .holds v ∧ t.env.rxs = xs ∧
        t.events = s.events ++ [.rx v (if ack then .ack else .nack)]

/-- 44_byte_transfer.md R280, R282, R284: a `readByte` that never sees a received byte polls exactly `r + 1` times,
each poll followed by a delay, and is still running before its last line; it returns NoAck, and RESULT and the
engine are unchanged. The count of lines is the model's (log entry 12). -/
def Obligations.ReadByteTimesOutAfterItsBudget : Prop :=
  ∀ (k : Nat) (s : State), s.seq.busy = true → s.seq.op = 0x6#4 → s.seq.pos = .readByte .budget →
    s.cfg.ticks.toNat ≤ k → s.eng.code ≠ 0x0A#5 → s.eng.code ≠ 0x0B#5 →
    let r := s.cfg.retries.toNat
    let n := 1 + 5 * (r + 1)
    let t := lines k (n + 1) s
    visits (ticks k) (.readByte .poll) n s = r + 1 ∧ visits (ticks k) (.readByte .arm) n s = r + 1 ∧
      (lines k (n - 1) s).seq.busy = true ∧ (lines k (n - 1) s).seq.pos = .readByte .checkExhausted ∧
      (lines k n s).seq.busy = true ∧ (lines k n s).seq.pos = .readByteEnd ∧
      t.seq.busy = false ∧ t.seq.outcome = .noAck ∧ t.result = s.result ∧ t.eng = s.eng ∧
        t.events = s.events ∧ t.faults = s.faults

/-- 45_transactions.md R310, R316, 44_byte_transfer.md R280, 20_memory.md R77, R78: after a successful start,
`write` sends the bytes of its buffer in order: byte `i` after as many NACKs as `js` has at `i`, each at most
CFG_RETRIES, and an ACK. It fetches each byte once, makes a delay for each NACK, and stands at its close. While a
byte is being sent, the content of BUF does not matter, so that a byte retried is sent as it was read. The count of
lines is the model's (log entry 12). -/
def Obligations.WriteSendsItsBufferInOrder : Prop :=
  (∀ (k : Nat) (js : List Nat) (xs : List TxAnswer) (s : State), s.seq.busy = true → s.seq.pos = .write .index →
    s.eng.pending = none → s.eng.phase = .mt → s.cfg.ticks.toNat ≤ k → js.length = s.seq.n.toNat →
    (∀ j ∈ js, j ≤ s.cfg.retries.toNat) →
    s.env.txs = js.flatMap (fun j => List.replicate j .nack ++ [.ack]) ++ xs →
    let n := 1 + (js.map fun j => 8 + 8 * j).sum
    let t := rounds k n s
    t.seq.pos = .write .close ∧ t.eng.phase = .mt ∧ t.faults = s.faults ∧ t.env.txs = xs ∧
      (∀ a : Half, t.memRead a = s.memRead a) ∧
        visits (settle k) (.write .fetch) n s = s.seq.n.toNat ∧
        visits (settle k) (.write (.byte .arm)) n s = js.sum ∧
        t.events =
          s.events ++ js.zipIdx.flatMap fun x =>
            List.replicate x.1 (Event.tx (s.memRead (s.seq.p + BitVec.ofNat 16 x.2)) .nack) ++
              [Event.tx (s.memRead (s.seq.p + BitVec.ofNat 16 x.2)) .ack]) ∧
    ∀ (checks : Bool) (l : ByteLine) (m : Memory) (s : State), s.seq.pos = .write (.byte l) →
      sequencerStep checks { s with buf := m } = { sequencerStep checks s with buf := m }

/-- 45_transactions.md R311, R314, R316, 20_memory.md R77, R78: after a successful start, a `read` of the bytes `vs`
acknowledges every byte but the last, stores byte `i` at `p + i` modulo 2^16 and no other byte, and stands at its
close. The count of lines is the model's (log entry 12). -/
def Obligations.ReadStoresItsBytesAndNacksTheLast : Prop :=
  ∀ (k : Nat) (vs : List Byte) (xs : List RxAnswer) (s : State), vs ≠ [] → vs.length = s.seq.n.toNat →
    s.seq.busy = true → s.seq.pos = .read .index → s.eng.pending = none → s.eng.phase = .mr →
    Memory.wf s.buf = true → s.env.rxs = vs.map RxAnswer.byte ++ xs →
    let t := rounds k (1 + 8 * vs.length) s
    t.seq.pos = .read .close ∧ t.eng.phase = .mrHold ∧ t.faults = s.faults ∧ t.result = s.result ∧
      (∀ (i : Nat) (v : Byte), vs[i]? = some v → t.memRead (s.seq.p + BitVec.ofNat 16 i) = v) ∧
        (∀ a : Half, (∀ i : Nat, i < vs.length → a ≠ s.seq.p + BitVec.ofNat 16 i) →
          t.memRead a = s.memRead a) ∧
          t.events =
            s.events ++ vs.dropLast.map (fun v => Event.rx v .ack) ++
              (vs.getLast?.map fun v => Event.rx v .nack).toList

/-- 45_transactions.md R313, R310, R311: `write` and `read` end in one step with their closing command: at the close
STOP, or the RESTART arm if endWithRestart; after a byte or a checked start that failed, STOP, with the failing
outcome. With nothing pending, P is emitted exactly when the block owns the bus and STOP is the closing command. A
command still pending, such as a receive that a `read` gave up on, is aborted by STOP (Abort, then P) and makes the
RESTART arm refused. That the sequencer's locals, which 10_state.md R46 leaves unspecified between operations, are
kept over the end of the operation is the model's choice (log entry 7, DESIGN CHOICE), that a failed test, STOP and
the end are one step is the model's reading of 43_bus_primitives.md R242 (log entry 12), and that a STOP reads the
rate is log entry 9. -/
def Obligations.TransactionsEndWithOneClosingCommand : Prop :=
  ∀ s : State, s.seq.busy = true → (s.seq.op = 0x7#4 ∨ s.seq.op = 0x8#4) →
    let ended (e : Eng) (es : List Event) (fs : List FaultRecord) (o : TransferOutcome) : State :=
      { s with
        eng := e
        events := s.events ++ es
        faults := s.faults ++ fs
        seq := { s.seq with outcome := o, busy := false, pos := .none } }
    let stopped (d : DrawnByte) : Eng :=
      { s.eng with
        ctrl := ⟨false, false, false, false, false, true⟩
        code := 0x1F#5
        phase := .idle
        pending := none
        data := d
        divisor := 16 + 2 * s.eng.bitrate.toNat * 4 ^ s.eng.ps.toNat }
    let closing := s.seq.pos = .write .close ∨ s.seq.pos = .read .close
    let failing := s.seq.o ≠ .ok ∧ (s.seq.pos = .write .checkStart ∨ s.seq.pos = .write .checkByte ∨
      s.seq.pos = .read .checkStart ∨ s.seq.pos = .read .checkByte)
    (s.eng.pending = none →
      let p : List Event := if s.eng.phase = .idle then [] else [.stop]
      (closing → s.seq.r = false → sequencerStep true s = ended (stopped s.eng.data) p [] .ok) ∧
      (closing → s.seq.r = true →
        sequencerStep true s =
          ended { s.eng with ctrl := ⟨s.eng.ctrl.int, false, true, false, false, true⟩ } [] [] .ok) ∧
      (failing → sequencerStep true s = ended (stopped s.eng.data) p [] s.seq.o)) ∧
    ∀ c : Cmd, s.eng.pending = some c →
      let d : DrawnByte := if c = .dataRx true ∨ c = .dataRx false then .unspecified else s.eng.data
      (closing → s.seq.r = false → sequencerStep true s = ended (stopped d) [.abort c, .stop] [] .ok) ∧
      (closing → s.seq.r = true →
        sequencerStep true s = ended { s.eng with err := true } [] [⟨.engineBusy, 0x00#5, 0x24#8⟩] .ok) ∧
      (failing → sequencerStep true s = ended (stopped d) [.abort c, .stop] [] s.seq.o)

/-- 45_transactions.md R311, R312, R310, 00_scope.md R7: `read` sends the base address plus 1 modulo 256, `write`
the address as given: each puts it in DATA and launches it. After a start that did not return Ok, `read` ends with that
outcome, and so does `write`, but for WRITE_CHECKS_START = 0, the reference behaviour, where it goes on to its bytes;
after Ok both go on. -/
def Obligations.TransactionsSendTheirAddressAndCheckTheStart : Prop :=
  ∀ s : State, s.seq.busy = true →
    (∀ checks : Bool, s.eng.pending = none →
      (s.seq.pos = .write (.start .data) →
        sequencerStep checks s =
          { s with
            eng := { s.eng with data := .holds s.seq.a }
            seq := { s.seq with pos := .write (.start .transmit) } }) ∧
      (s.seq.pos = .read (.start .data) → ∃ b : Byte, b.toNat = (s.seq.a.toNat + 1) % 256 ∧
        sequencerStep checks s =
          { s with
            eng := { s.eng with data := .holds b }
            seq := { s.seq with pos := .read (.start .transmit) } }) ∧
      ∀ b : Byte, (s.seq.pos = .write (.start .transmit) ∨ s.seq.pos = .read (.start .transmit)) →
        s.eng.phase = .addr → s.eng.data = .holds b → (sequencerStep checks s).eng.pending = some (.addrTx b)) ∧
    (s.seq.pos = .write .checkStart →
      sequencerStep false s = { s with seq := { s.seq with pos := .write .index } } ∧
        (s.seq.o = .ok → sequencerStep true s = { s with seq := { s.seq with pos := .write .index } }) ∧
          (s.seq.op = 0x7#4 → s.seq.o ≠ .ok →
            (sequencerStep true s).seq.busy = false ∧ (sequencerStep true s).seq.outcome = s.seq.o)) ∧
    ∀ checks : Bool, s.seq.pos = .read .checkStart →
      (s.seq.o = .ok → sequencerStep checks s = { s with seq := { s.seq with pos := .read .index } }) ∧
        (s.seq.op = 0x8#4 → s.seq.o ≠ .ok →
          (sequencerStep checks s).seq.busy = false ∧ (sequencerStep checks s).seq.outcome = s.seq.o)

/-- 20_memory.md R75, 45_transactions.md R316: a step changes BUF only at the store of `read`, at the buffer
address of the byte, or where the host itself writes the byte. -/
def Obligations.BufChangesOnlyAtAReadsStore : Prop :=
  ∀ s t : State, step s = .next t →
    (∀ a : Half, t.memRead a = s.memRead a) ∨
    (s.turn = .sequencer ∧ s.seq.busy = true ∧ s.seq.pos = .read .store ∧
      ∀ a : Half, a ≠ bufAddress s.seq.p s.seq.i → t.memRead a = s.memRead a) ∨
    ∃ (a : Half) (v : Byte), s.turn = .bufWrite a v ∧ ∀ b : Half, b ≠ a → t.memRead b = s.memRead b

/-- 10_state.md R51, R154: OUTCOME changes only in the step that clears BUSY, or by reset. -/
def Obligations.OutcomeChangesOnlyAtTheEnd : Prop :=
  ∀ s t : State, step s = .next t → t.seq.outcome ≠ s.seq.outcome →
    s.turn = .reset ∨ (s.turn = .sequencer ∧ s.seq.busy = true ∧ t.seq.busy = false)

/-! ### Whole-machine rules and invariants -/

/-- 10_state.md R48, R49, 60_exceptions.md R357, 70_reset_and_hazards.md R370: no step, reset among them, takes an
entry out of the bus event history or of the fault list. -/
def Obligations.HistoriesAreNeverShortened : Prop :=
  ∀ s t : State, step s = .next t → s.events <+: t.events ∧ s.faults <+: t.faults

/-- 43_bus_primitives.md R221: from a coherent engine the phase changes only to IDLE, with the event that gives up
the bus last in the history, or at a completion the table names. -/
def Obligations.PhaseChangesOnlyAsTheTableSays : Prop :=
  ∀ s t : State, engineOk s = true → step s = .next t → t.eng.phase ≠ s.eng.phase →
    (t.eng.phase = .idle ∧ ∃ e : Event, t.events.getLast? = some e ∧ ownsAfter true e = false) ∨
    (s.turn = .engine ∧ t.eng.phase = .addr ∧
      ∃ k : StartKind, s.eng.pending = some (.start k) ∧ t.events = s.events ++ [.started k]) ∨
    (s.turn = .engine ∧
      ∃ (b : Byte) (r : TxAnswer), r ≠ .arbLost ∧ s.eng.pending = some (.addrTx b) ∧
        t.events = s.events ++ [.addr b r] ∧
        t.eng.phase =
          (if b.getLsbD 0 then (if r = .ack then .mr else .mrHold) else .mt)) ∨
    (s.turn = .engine ∧ t.eng.phase = .mrHold ∧
      ∃ v : Byte, s.eng.pending = some (.dataRx false) ∧ t.events = s.events ++ [.rx v .nack])

/-- 10_state.md R41, R32, 30_encoding.md R120: every step keeps the engine coherent: with a command pending INT is
0 and the code NO_INFO, the command fits the phase, DATA holds the byte being sent or is unspecified
(44_byte_transfer.md R272), and the code is one of the fourteen. -/
def Obligations.EngineStaysCoherent : Prop :=
  ∀ s t : State, engineOk s = true → step s = .next t → engineOk t = true

/-- Every step keeps a coherent state coherent: the engine as above; who owns the bus by the event history is who
owns it by the phase (43_bus_primitives.md R223); BUSY, the line and the latched operation agree and a loop's
index is below its length (10_state.md R44, R47; 20_memory.md R77); a waiting delay counts and has not passed its
target unmatched (41_timing_source.md R186); ERR comes with a recorded fault (10_state.md R33); BUF is in canonical
form. -/
def Obligations.CoherenceIsKeptByEveryStep : Prop :=
  ∀ s t : State, s.coherent = true → step s = .next t → t.coherent = true

/-- The state at reset is coherent. -/
def Obligations.ResetIsCoherent : Prop := State.reset.coherent = true

/-- 10_state.md R62, R48, R49: the values the spec gives for reset, at the start of a run. -/
def Obligations.ResetHoldsTheValuesOfTheSpec : Prop :=
  let s := State.reset
  ctrlValue s = 0x00#8 ∧ statusValue s = 0xF8#8 ∧ s.eng.data = .unspecified ∧ s.eng.bitrate = 0x00#8 ∧
    tmrCtlValue s = 0x00#8 ∧ s.tmr.cnt = 0#16 ∧ s.tmr.hlatch = 0#8 ∧ s.tmr.target = 0#16 ∧
      s.tmr.matched = false ∧ seqStatValue s = 0x00#8 ∧ s.args = ⟨0#8, 0#8, 0#8, 0#16, 0#16⟩ ∧
        s.result = .unspecified ∧ s.cfg = ⟨0#16, 0#8⟩ ∧ s.eng.phase = .idle ∧ s.eng.pending = none ∧
          s.seq.op = 0#4 ∧ s.seq.a = 0#8 ∧ s.seq.b = 0#8 ∧ s.seq.m = 0#8 ∧ s.seq.n = 0#16 ∧ s.seq.p = 0#16 ∧
            s.seq.r = false ∧ s.seq.pos = .none ∧ s.events = [] ∧ s.faults = []

/-- 70_reset_and_hazards.md R370, 10_state.md R62: the reset event puts the block at its reset values, emits Release
exactly if the block held the bus or a command was pending, and keeps the fault list, the history and every byte of
BUF. -/
def Obligations.ResetEventRestoresTheBlock : Prop :=
  ∀ s : State,
    (resetEvent s).eng = State.reset.eng ∧ (resetEvent s).tmr = State.reset.tmr ∧
      (resetEvent s).args = State.reset.args ∧ (resetEvent s).cfg = State.reset.cfg ∧
        (resetEvent s).result = State.reset.result ∧ (resetEvent s).seq.busy = false ∧
          (resetEvent s).seq.outcome = .ok ∧ (resetEvent s).seq.pos = .none ∧ (resetEvent s).seq.op = 0#4 ∧
          (resetEvent s).seq.a = 0#8 ∧ (resetEvent s).seq.b = 0#8 ∧ (resetEvent s).seq.m = 0#8 ∧
          (resetEvent s).seq.n = 0#16 ∧ (resetEvent s).seq.p = 0#16 ∧ (resetEvent s).seq.r = false ∧
            (resetEvent s).faults = s.faults ∧ (∀ a : Half, (resetEvent s).memRead a = s.memRead a) ∧
              (s.eng.phase = .idle ∧ s.eng.pending = none → (resetEvent s).events = s.events) ∧
                (s.eng.phase ≠ .idle ∨ s.eng.pending ≠ none →
                  (resetEvent s).events = s.events ++ [.release])
end

