-- ==== Sys2Proof/Laws/Encoding.lean ====
section
/-! SUPPORT. The fields of an access word and what the decoder reads from them (30_encoding.md R100, R101). -/

namespace Sys2Proof

/-- The value of an access word (30_encoding.md R100). -/
theorem accessWord_toNat (b : Bool) (o : Offset) (d : Byte) :
    (accessWord b o d).toNat = b.toNat * 8192 + o.toNat * 256 + d.toNat := by
  have ho := o.isLt
  have hd := d.isLt
  refine (BitVec.toNat_append _ _).trans ?_
  rw [← Nat.shiftLeft_add_eq_or_of_lt hd, Nat.shiftLeft_eq, BitVec.toNat_append,
    ← Nat.shiftLeft_add_eq_or_of_lt ho, Nat.shiftLeft_eq]
  simp
  omega

/-- WE of an access word put together from its fields. -/
theorem we_accessWord (b : Bool) (o : Offset) (d : Byte) : AccessWord.we (accessWord b o d) = b := by
  have ho := o.isLt
  have hd := d.isLt
  rw [AccessWord.we, BitVec.getLsbD, accessWord_toNat, Nat.testBit_eq_decide_div_mod_eq]
  cases b <;> simp <;> omega

/-- OFF of an access word put together from its fields. -/
theorem off_accessWord (b : Bool) (o : Offset) (d : Byte) : AccessWord.off (accessWord b o d) = o := by
  have ho := o.isLt
  have hd := d.isLt
  apply BitVec.eq_of_toNat_eq
  rw [AccessWord.off, BitVec.extractLsb'_toNat, accessWord_toNat, Nat.shiftRight_eq_div_pow]
  cases b <;> simp <;> omega

/-- D of an access word put together from its fields. -/
theorem d_accessWord (b : Bool) (o : Offset) (d : Byte) : AccessWord.d (accessWord b o d) = d := by
  have ho := o.isLt
  have hd := d.isLt
  apply BitVec.eq_of_toNat_eq
  rw [AccessWord.d, BitVec.extractLsb'_toNat, accessWord_toNat]
  cases b <;> simp <;> omega

/-- An access word is put together from its fields. -/
theorem accessWord_fields (w : AccessWord) :
    accessWord (AccessWord.we w) (AccessWord.off w) (AccessWord.d w) = w := by
  have hw := w.isLt
  apply BitVec.eq_of_toNat_eq
  rw [accessWord_toNat, AccessWord.we, AccessWord.off, AccessWord.d, BitVec.extractLsb'_toNat,
    BitVec.extractLsb'_toNat, Nat.shiftRight_eq_div_pow, BitVec.getLsbD, Nat.testBit_eq_decide_div_mod_eq]
  by_cases h : w.toNat / 8192 % 2 = 1 <;> simp [h] <;> omega

/-- What a read access word decodes to. -/
theorem decode_readWord (o : Offset) : decode (readWord o) = decodeRead o := by
  simp [decode, readWord, we_accessWord, off_accessWord]

/-- What a write access word decodes to. -/
theorem decode_writeWord (o : Offset) (d : Byte) : decode (writeWord o d) = decodeWrite o d := by
  simp [decode, writeWord, we_accessWord, off_accessWord, d_accessWord]

/-- Every access word is a read word with some D, or a write word. -/
theorem word_cases (w : AccessWord) :
    (AccessWord.we w = false ∧ decode w = decodeRead (AccessWord.off w)) ∨
      (AccessWord.we w = true ∧ w = writeWord (AccessWord.off w) (AccessWord.d w) ∧
        decode w = decodeWrite (AccessWord.off w) (AccessWord.d w)) := by
  have h := accessWord_fields w
  cases hw : AccessWord.we w
  · exact .inl ⟨rfl, by simp [decode, hw]⟩
  · exact .inr ⟨rfl, by rw [hw] at h; exact h.symm, by simp [decode, hw]⟩

end Sys2Proof
end

