-- ==== Sys2Proof/Laws/State.lean ====
section
/-! SUPPORT. What each named update of the state does to each field: true by unfolding the update once, so that
no later proof unfolds it. -/

namespace Sys2Proof.Machine

variable (s : State)

@[simp] theorem emit_eng (e : Event) : (s.emit e).eng = s.eng := rfl
@[simp] theorem emit_tmr (e : Event) : (s.emit e).tmr = s.tmr := rfl
@[simp] theorem emit_args (e : Event) : (s.emit e).args = s.args := rfl
@[simp] theorem emit_cfg (e : Event) : (s.emit e).cfg = s.cfg := rfl
@[simp] theorem emit_result (e : Event) : (s.emit e).result = s.result := rfl
@[simp] theorem emit_seq (e : Event) : (s.emit e).seq = s.seq := rfl
@[simp] theorem emit_buf (e : Event) : (s.emit e).buf = s.buf := rfl
@[simp] theorem emit_events (e : Event) : (s.emit e).events = s.events ++ [e] := rfl
@[simp] theorem emit_faults (e : Event) : (s.emit e).faults = s.faults := rfl
@[simp] theorem emit_readData (e : Event) : (s.emit e).readData = s.readData := rfl
@[simp] theorem emit_env (e : Event) : (s.emit e).env = s.env := rfl

@[simp] theorem raise_tmr (r : FaultReason) (o : Offset) (v : Byte) : (s.raise r o v).tmr = s.tmr := rfl
@[simp] theorem raise_args (r : FaultReason) (o : Offset) (v : Byte) : (s.raise r o v).args = s.args := rfl
@[simp] theorem raise_cfg (r : FaultReason) (o : Offset) (v : Byte) : (s.raise r o v).cfg = s.cfg := rfl
@[simp] theorem raise_result (r : FaultReason) (o : Offset) (v : Byte) : (s.raise r o v).result = s.result := rfl
@[simp] theorem raise_seq (r : FaultReason) (o : Offset) (v : Byte) : (s.raise r o v).seq = s.seq := rfl
@[simp] theorem raise_buf (r : FaultReason) (o : Offset) (v : Byte) : (s.raise r o v).buf = s.buf := rfl
@[simp] theorem raise_events (r : FaultReason) (o : Offset) (v : Byte) : (s.raise r o v).events = s.events := rfl
@[simp] theorem raise_faults (r : FaultReason) (o : Offset) (v : Byte) : (s.raise r o v).faults = s.faults ++ [⟨r, o, v⟩] := rfl
@[simp] theorem raise_readData (r : FaultReason) (o : Offset) (v : Byte) : (s.raise r o v).readData = s.readData := rfl
@[simp] theorem raise_env (r : FaultReason) (o : Offset) (v : Byte) : (s.raise r o v).env = s.env := rfl
@[simp] theorem raise_eng_ctrl (r : FaultReason) (o : Offset) (v : Byte) : (s.raise r o v).eng.ctrl = s.eng.ctrl := rfl
@[simp] theorem raise_eng_code (r : FaultReason) (o : Offset) (v : Byte) : (s.raise r o v).eng.code = s.eng.code := rfl
@[simp] theorem raise_eng_err (r : FaultReason) (o : Offset) (v : Byte) : (s.raise r o v).eng.err = true := rfl
@[simp] theorem raise_eng_ps (r : FaultReason) (o : Offset) (v : Byte) : (s.raise r o v).eng.ps = s.eng.ps := rfl
@[simp] theorem raise_eng_data (r : FaultReason) (o : Offset) (v : Byte) : (s.raise r o v).eng.data = s.eng.data := rfl
@[simp] theorem raise_eng_bitrate (r : FaultReason) (o : Offset) (v : Byte) : (s.raise r o v).eng.bitrate = s.eng.bitrate := rfl
@[simp] theorem raise_eng_phase (r : FaultReason) (o : Offset) (v : Byte) : (s.raise r o v).eng.phase = s.eng.phase := rfl
@[simp] theorem raise_eng_pending (r : FaultReason) (o : Offset) (v : Byte) : (s.raise r o v).eng.pending = s.eng.pending := rfl
@[simp] theorem raise_eng_divisor (r : FaultReason) (o : Offset) (v : Byte) : (s.raise r o v).eng.divisor = s.eng.divisor := rfl

@[simp] theorem drawn_eng : (s.drawn).eng = s.eng := rfl
@[simp] theorem drawn_tmr : (s.drawn).tmr = s.tmr := rfl
@[simp] theorem drawn_args : (s.drawn).args = s.args := rfl
@[simp] theorem drawn_cfg : (s.drawn).cfg = s.cfg := rfl
@[simp] theorem drawn_result : (s.drawn).result = s.result := rfl
@[simp] theorem drawn_seq : (s.drawn).seq = s.seq := rfl
@[simp] theorem drawn_buf : (s.drawn).buf = s.buf := rfl
@[simp] theorem drawn_events : (s.drawn).events = s.events := rfl
@[simp] theorem drawn_faults : (s.drawn).faults = s.faults := rfl
@[simp] theorem drawn_readData : (s.drawn).readData = s.readData := rfl
@[simp] theorem drawn_env_turns : (s.drawn).env.turns = s.env.turns := rfl
@[simp] theorem drawn_env_accesses : (s.drawn).env.accesses = s.env.accesses := rfl
@[simp] theorem drawn_env_starts : (s.drawn).env.starts = s.env.starts := rfl
@[simp] theorem drawn_env_txs : (s.drawn).env.txs = s.env.txs := rfl
@[simp] theorem drawn_env_rxs : (s.drawn).env.rxs = s.env.rxs := rfl
@[simp] theorem drawn_env_draws : (s.drawn).env.draws = s.env.draws + 1 := rfl

@[simp] theorem returnByte_eng (b : Byte) : (s.returnByte b).eng = s.eng := rfl
@[simp] theorem returnByte_tmr (b : Byte) : (s.returnByte b).tmr = s.tmr := rfl
@[simp] theorem returnByte_args (b : Byte) : (s.returnByte b).args = s.args := rfl
@[simp] theorem returnByte_cfg (b : Byte) : (s.returnByte b).cfg = s.cfg := rfl
@[simp] theorem returnByte_result (b : Byte) : (s.returnByte b).result = s.result := rfl
@[simp] theorem returnByte_seq (b : Byte) : (s.returnByte b).seq = s.seq := rfl
@[simp] theorem returnByte_buf (b : Byte) : (s.returnByte b).buf = s.buf := rfl
@[simp] theorem returnByte_events (b : Byte) : (s.returnByte b).events = s.events := rfl
@[simp] theorem returnByte_faults (b : Byte) : (s.returnByte b).faults = s.faults := rfl
@[simp] theorem returnByte_readData (b : Byte) : (s.returnByte b).readData = b := rfl
@[simp] theorem returnByte_env (b : Byte) : (s.returnByte b).env = s.env := rfl

@[simp] theorem setCode_tmr (c : Byte) : (s.setCode c).tmr = s.tmr := rfl
@[simp] theorem setCode_args (c : Byte) : (s.setCode c).args = s.args := rfl
@[simp] theorem setCode_cfg (c : Byte) : (s.setCode c).cfg = s.cfg := rfl
@[simp] theorem setCode_result (c : Byte) : (s.setCode c).result = s.result := rfl
@[simp] theorem setCode_seq (c : Byte) : (s.setCode c).seq = s.seq := rfl
@[simp] theorem setCode_buf (c : Byte) : (s.setCode c).buf = s.buf := rfl
@[simp] theorem setCode_events (c : Byte) : (s.setCode c).events = s.events := rfl
@[simp] theorem setCode_faults (c : Byte) : (s.setCode c).faults = s.faults := rfl
@[simp] theorem setCode_readData (c : Byte) : (s.setCode c).readData = s.readData := rfl
@[simp] theorem setCode_env (c : Byte) : (s.setCode c).env = s.env := rfl
@[simp] theorem setCode_eng_ctrl (c : Byte) : (s.setCode c).eng.ctrl = s.eng.ctrl := rfl
@[simp] theorem setCode_eng_code (c : Byte) : (s.setCode c).eng.code = c.extractLsb' 3 5 := rfl
@[simp] theorem setCode_eng_err (c : Byte) : (s.setCode c).eng.err = s.eng.err := rfl
@[simp] theorem setCode_eng_ps (c : Byte) : (s.setCode c).eng.ps = s.eng.ps := rfl
@[simp] theorem setCode_eng_data (c : Byte) : (s.setCode c).eng.data = s.eng.data := rfl
@[simp] theorem setCode_eng_bitrate (c : Byte) : (s.setCode c).eng.bitrate = s.eng.bitrate := rfl
@[simp] theorem setCode_eng_phase (c : Byte) : (s.setCode c).eng.phase = s.eng.phase := rfl
@[simp] theorem setCode_eng_pending (c : Byte) : (s.setCode c).eng.pending = s.eng.pending := rfl
@[simp] theorem setCode_eng_divisor (c : Byte) : (s.setCode c).eng.divisor = s.eng.divisor := rfl

@[simp] theorem setInt_tmr (b : Bool) : (s.setInt b).tmr = s.tmr := rfl
@[simp] theorem setInt_args (b : Bool) : (s.setInt b).args = s.args := rfl
@[simp] theorem setInt_cfg (b : Bool) : (s.setInt b).cfg = s.cfg := rfl
@[simp] theorem setInt_result (b : Bool) : (s.setInt b).result = s.result := rfl
@[simp] theorem setInt_seq (b : Bool) : (s.setInt b).seq = s.seq := rfl
@[simp] theorem setInt_buf (b : Bool) : (s.setInt b).buf = s.buf := rfl
@[simp] theorem setInt_events (b : Bool) : (s.setInt b).events = s.events := rfl
@[simp] theorem setInt_faults (b : Bool) : (s.setInt b).faults = s.faults := rfl
@[simp] theorem setInt_readData (b : Bool) : (s.setInt b).readData = s.readData := rfl
@[simp] theorem setInt_env (b : Bool) : (s.setInt b).env = s.env := rfl
@[simp] theorem setInt_eng_code (b : Bool) : (s.setInt b).eng.code = s.eng.code := rfl
@[simp] theorem setInt_eng_err (b : Bool) : (s.setInt b).eng.err = s.eng.err := rfl
@[simp] theorem setInt_eng_ps (b : Bool) : (s.setInt b).eng.ps = s.eng.ps := rfl
@[simp] theorem setInt_eng_data (b : Bool) : (s.setInt b).eng.data = s.eng.data := rfl
@[simp] theorem setInt_eng_bitrate (b : Bool) : (s.setInt b).eng.bitrate = s.eng.bitrate := rfl
@[simp] theorem setInt_eng_phase (b : Bool) : (s.setInt b).eng.phase = s.eng.phase := rfl
@[simp] theorem setInt_eng_pending (b : Bool) : (s.setInt b).eng.pending = s.eng.pending := rfl
@[simp] theorem setInt_eng_divisor (b : Bool) : (s.setInt b).eng.divisor = s.eng.divisor := rfl
@[simp] theorem setInt_ctrl_int (b : Bool) : (s.setInt b).eng.ctrl.int = b := rfl
@[simp] theorem setInt_ctrl_ea (b : Bool) : (s.setInt b).eng.ctrl.ea = s.eng.ctrl.ea := rfl
@[simp] theorem setInt_ctrl_sta (b : Bool) : (s.setInt b).eng.ctrl.sta = s.eng.ctrl.sta := rfl
@[simp] theorem setInt_ctrl_sto (b : Bool) : (s.setInt b).eng.ctrl.sto = s.eng.ctrl.sto := rfl
@[simp] theorem setInt_ctrl_sa (b : Bool) : (s.setInt b).eng.ctrl.sa = s.eng.ctrl.sa := rfl
@[simp] theorem setInt_ctrl_en (b : Bool) : (s.setInt b).eng.ctrl.en = s.eng.ctrl.en := rfl

@[simp] theorem setPhase_tmr (p : Phase) : (s.setPhase p).tmr = s.tmr := rfl
@[simp] theorem setPhase_args (p : Phase) : (s.setPhase p).args = s.args := rfl
@[simp] theorem setPhase_cfg (p : Phase) : (s.setPhase p).cfg = s.cfg := rfl
@[simp] theorem setPhase_result (p : Phase) : (s.setPhase p).result = s.result := rfl
@[simp] theorem setPhase_seq (p : Phase) : (s.setPhase p).seq = s.seq := rfl
@[simp] theorem setPhase_buf (p : Phase) : (s.setPhase p).buf = s.buf := rfl
@[simp] theorem setPhase_events (p : Phase) : (s.setPhase p).events = s.events := rfl
@[simp] theorem setPhase_faults (p : Phase) : (s.setPhase p).faults = s.faults := rfl
@[simp] theorem setPhase_readData (p : Phase) : (s.setPhase p).readData = s.readData := rfl
@[simp] theorem setPhase_env (p : Phase) : (s.setPhase p).env = s.env := rfl
@[simp] theorem setPhase_eng_ctrl (p : Phase) : (s.setPhase p).eng.ctrl = s.eng.ctrl := rfl
@[simp] theorem setPhase_eng_code (p : Phase) : (s.setPhase p).eng.code = s.eng.code := rfl
@[simp] theorem setPhase_eng_err (p : Phase) : (s.setPhase p).eng.err = s.eng.err := rfl
@[simp] theorem setPhase_eng_ps (p : Phase) : (s.setPhase p).eng.ps = s.eng.ps := rfl
@[simp] theorem setPhase_eng_data (p : Phase) : (s.setPhase p).eng.data = s.eng.data := rfl
@[simp] theorem setPhase_eng_bitrate (p : Phase) : (s.setPhase p).eng.bitrate = s.eng.bitrate := rfl
@[simp] theorem setPhase_eng_phase (p : Phase) : (s.setPhase p).eng.phase = p := rfl
@[simp] theorem setPhase_eng_pending (p : Phase) : (s.setPhase p).eng.pending = s.eng.pending := rfl
@[simp] theorem setPhase_eng_divisor (p : Phase) : (s.setPhase p).eng.divisor = s.eng.divisor := rfl

@[simp] theorem setPending_tmr (c : Option Cmd) : (s.setPending c).tmr = s.tmr := rfl
@[simp] theorem setPending_args (c : Option Cmd) : (s.setPending c).args = s.args := rfl
@[simp] theorem setPending_cfg (c : Option Cmd) : (s.setPending c).cfg = s.cfg := rfl
@[simp] theorem setPending_result (c : Option Cmd) : (s.setPending c).result = s.result := rfl
@[simp] theorem setPending_seq (c : Option Cmd) : (s.setPending c).seq = s.seq := rfl
@[simp] theorem setPending_buf (c : Option Cmd) : (s.setPending c).buf = s.buf := rfl
@[simp] theorem setPending_events (c : Option Cmd) : (s.setPending c).events = s.events := rfl
@[simp] theorem setPending_faults (c : Option Cmd) : (s.setPending c).faults = s.faults := rfl
@[simp] theorem setPending_readData (c : Option Cmd) : (s.setPending c).readData = s.readData := rfl
@[simp] theorem setPending_env (c : Option Cmd) : (s.setPending c).env = s.env := rfl
@[simp] theorem setPending_eng_ctrl (c : Option Cmd) : (s.setPending c).eng.ctrl = s.eng.ctrl := rfl
@[simp] theorem setPending_eng_code (c : Option Cmd) : (s.setPending c).eng.code = s.eng.code := rfl
@[simp] theorem setPending_eng_err (c : Option Cmd) : (s.setPending c).eng.err = s.eng.err := rfl
@[simp] theorem setPending_eng_ps (c : Option Cmd) : (s.setPending c).eng.ps = s.eng.ps := rfl
@[simp] theorem setPending_eng_data (c : Option Cmd) : (s.setPending c).eng.data = s.eng.data := rfl
@[simp] theorem setPending_eng_bitrate (c : Option Cmd) : (s.setPending c).eng.bitrate = s.eng.bitrate := rfl
@[simp] theorem setPending_eng_phase (c : Option Cmd) : (s.setPending c).eng.phase = s.eng.phase := rfl
@[simp] theorem setPending_eng_pending (c : Option Cmd) : (s.setPending c).eng.pending = c := rfl
@[simp] theorem setPending_eng_divisor (c : Option Cmd) : (s.setPending c).eng.divisor = s.eng.divisor := rfl

@[simp] theorem setData_tmr (d : DrawnByte) : (s.setData d).tmr = s.tmr := rfl
@[simp] theorem setData_args (d : DrawnByte) : (s.setData d).args = s.args := rfl
@[simp] theorem setData_cfg (d : DrawnByte) : (s.setData d).cfg = s.cfg := rfl
@[simp] theorem setData_result (d : DrawnByte) : (s.setData d).result = s.result := rfl
@[simp] theorem setData_seq (d : DrawnByte) : (s.setData d).seq = s.seq := rfl
@[simp] theorem setData_buf (d : DrawnByte) : (s.setData d).buf = s.buf := rfl
@[simp] theorem setData_events (d : DrawnByte) : (s.setData d).events = s.events := rfl
@[simp] theorem setData_faults (d : DrawnByte) : (s.setData d).faults = s.faults := rfl
@[simp] theorem setData_readData (d : DrawnByte) : (s.setData d).readData = s.readData := rfl
@[simp] theorem setData_env (d : DrawnByte) : (s.setData d).env = s.env := rfl
@[simp] theorem setData_eng_ctrl (d : DrawnByte) : (s.setData d).eng.ctrl = s.eng.ctrl := rfl
@[simp] theorem setData_eng_code (d : DrawnByte) : (s.setData d).eng.code = s.eng.code := rfl
@[simp] theorem setData_eng_err (d : DrawnByte) : (s.setData d).eng.err = s.eng.err := rfl
@[simp] theorem setData_eng_ps (d : DrawnByte) : (s.setData d).eng.ps = s.eng.ps := rfl
@[simp] theorem setData_eng_data (d : DrawnByte) : (s.setData d).eng.data = d := rfl
@[simp] theorem setData_eng_bitrate (d : DrawnByte) : (s.setData d).eng.bitrate = s.eng.bitrate := rfl
@[simp] theorem setData_eng_phase (d : DrawnByte) : (s.setData d).eng.phase = s.eng.phase := rfl
@[simp] theorem setData_eng_pending (d : DrawnByte) : (s.setData d).eng.pending = s.eng.pending := rfl
@[simp] theorem setData_eng_divisor (d : DrawnByte) : (s.setData d).eng.divisor = s.eng.divisor := rfl

@[simp] theorem goto_eng (p : SeqPos) : (s.goto p).eng = s.eng := rfl
@[simp] theorem goto_tmr (p : SeqPos) : (s.goto p).tmr = s.tmr := rfl
@[simp] theorem goto_args (p : SeqPos) : (s.goto p).args = s.args := rfl
@[simp] theorem goto_cfg (p : SeqPos) : (s.goto p).cfg = s.cfg := rfl
@[simp] theorem goto_result (p : SeqPos) : (s.goto p).result = s.result := rfl
@[simp] theorem goto_buf (p : SeqPos) : (s.goto p).buf = s.buf := rfl
@[simp] theorem goto_events (p : SeqPos) : (s.goto p).events = s.events := rfl
@[simp] theorem goto_faults (p : SeqPos) : (s.goto p).faults = s.faults := rfl
@[simp] theorem goto_readData (p : SeqPos) : (s.goto p).readData = s.readData := rfl
@[simp] theorem goto_env (p : SeqPos) : (s.goto p).env = s.env := rfl
@[simp] theorem goto_seq_busy (p : SeqPos) : (s.goto p).seq.busy = s.seq.busy := rfl
@[simp] theorem goto_seq_outcome (p : SeqPos) : (s.goto p).seq.outcome = s.seq.outcome := rfl
@[simp] theorem goto_seq_op (p : SeqPos) : (s.goto p).seq.op = s.seq.op := rfl
@[simp] theorem goto_seq_a (p : SeqPos) : (s.goto p).seq.a = s.seq.a := rfl
@[simp] theorem goto_seq_b (p : SeqPos) : (s.goto p).seq.b = s.seq.b := rfl
@[simp] theorem goto_seq_m (p : SeqPos) : (s.goto p).seq.m = s.seq.m := rfl
@[simp] theorem goto_seq_n (p : SeqPos) : (s.goto p).seq.n = s.seq.n := rfl
@[simp] theorem goto_seq_p (p : SeqPos) : (s.goto p).seq.p = s.seq.p := rfl
@[simp] theorem goto_seq_r (p : SeqPos) : (s.goto p).seq.r = s.seq.r := rfl
@[simp] theorem goto_seq_c (p : SeqPos) : (s.goto p).seq.c = s.seq.c := rfl
@[simp] theorem goto_seq_i (p : SeqPos) : (s.goto p).seq.i = s.seq.i := rfl
@[simp] theorem goto_seq_o (p : SeqPos) : (s.goto p).seq.o = s.seq.o := rfl
@[simp] theorem goto_seq_sc (p : SeqPos) : (s.goto p).seq.sc = s.seq.sc := rfl
@[simp] theorem goto_seq_v (p : SeqPos) : (s.goto p).seq.v = s.seq.v := rfl
@[simp] theorem goto_seq_exhausted (p : SeqPos) : (s.goto p).seq.exhausted = s.seq.exhausted := rfl
@[simp] theorem goto_seq_pos (p : SeqPos) : (s.goto p).seq.pos = p := rfl

@[simp] theorem memWrite_eng (a : Half) (v : Byte) : (s.memWrite a v).eng = s.eng := rfl
@[simp] theorem memWrite_tmr (a : Half) (v : Byte) : (s.memWrite a v).tmr = s.tmr := rfl
@[simp] theorem memWrite_args (a : Half) (v : Byte) : (s.memWrite a v).args = s.args := rfl
@[simp] theorem memWrite_cfg (a : Half) (v : Byte) : (s.memWrite a v).cfg = s.cfg := rfl
@[simp] theorem memWrite_result (a : Half) (v : Byte) : (s.memWrite a v).result = s.result := rfl
@[simp] theorem memWrite_seq (a : Half) (v : Byte) : (s.memWrite a v).seq = s.seq := rfl
@[simp] theorem memWrite_buf (a : Half) (v : Byte) : (s.memWrite a v).buf = Memory.write s.buf a.toNat v := rfl
@[simp] theorem memWrite_events (a : Half) (v : Byte) : (s.memWrite a v).events = s.events := rfl
@[simp] theorem memWrite_faults (a : Half) (v : Byte) : (s.memWrite a v).faults = s.faults := rfl
@[simp] theorem memWrite_readData (a : Half) (v : Byte) : (s.memWrite a v).readData = s.readData := rfl
@[simp] theorem memWrite_env (a : Half) (v : Byte) : (s.memWrite a v).env = s.env := rfl

@[simp] theorem storeCtrl_tmr (v : Byte) : (storeCtrl v s).tmr = s.tmr := rfl
@[simp] theorem storeCtrl_args (v : Byte) : (storeCtrl v s).args = s.args := rfl
@[simp] theorem storeCtrl_cfg (v : Byte) : (storeCtrl v s).cfg = s.cfg := rfl
@[simp] theorem storeCtrl_result (v : Byte) : (storeCtrl v s).result = s.result := rfl
@[simp] theorem storeCtrl_seq (v : Byte) : (storeCtrl v s).seq = s.seq := rfl
@[simp] theorem storeCtrl_buf (v : Byte) : (storeCtrl v s).buf = s.buf := rfl
@[simp] theorem storeCtrl_events (v : Byte) : (storeCtrl v s).events = s.events := rfl
@[simp] theorem storeCtrl_faults (v : Byte) : (storeCtrl v s).faults = s.faults := rfl
@[simp] theorem storeCtrl_readData (v : Byte) : (storeCtrl v s).readData = s.readData := rfl
@[simp] theorem storeCtrl_env (v : Byte) : (storeCtrl v s).env = s.env := rfl
@[simp] theorem storeCtrl_eng_code (v : Byte) : (storeCtrl v s).eng.code = s.eng.code := rfl
@[simp] theorem storeCtrl_eng_err (v : Byte) : (storeCtrl v s).eng.err = s.eng.err := rfl
@[simp] theorem storeCtrl_eng_ps (v : Byte) : (storeCtrl v s).eng.ps = s.eng.ps := rfl
@[simp] theorem storeCtrl_eng_data (v : Byte) : (storeCtrl v s).eng.data = s.eng.data := rfl
@[simp] theorem storeCtrl_eng_bitrate (v : Byte) : (storeCtrl v s).eng.bitrate = s.eng.bitrate := rfl
@[simp] theorem storeCtrl_eng_phase (v : Byte) : (storeCtrl v s).eng.phase = s.eng.phase := rfl
@[simp] theorem storeCtrl_eng_pending (v : Byte) : (storeCtrl v s).eng.pending = s.eng.pending := rfl
@[simp] theorem storeCtrl_eng_divisor (v : Byte) : (storeCtrl v s).eng.divisor = s.eng.divisor := rfl
@[simp] theorem storeCtrl_ctrl_int (v : Byte) : (storeCtrl v s).eng.ctrl.int = s.eng.ctrl.int := rfl
@[simp] theorem storeCtrl_ctrl_ea (v : Byte) : (storeCtrl v s).eng.ctrl.ea = v.getLsbD 6 := rfl
@[simp] theorem storeCtrl_ctrl_sta (v : Byte) : (storeCtrl v s).eng.ctrl.sta = v.getLsbD 5 := rfl
@[simp] theorem storeCtrl_ctrl_sto (v : Byte) : (storeCtrl v s).eng.ctrl.sto = v.getLsbD 4 := rfl
@[simp] theorem storeCtrl_ctrl_sa (v : Byte) : (storeCtrl v s).eng.ctrl.sa = v.getLsbD 3 := rfl
@[simp] theorem storeCtrl_ctrl_en (v : Byte) : (storeCtrl v s).eng.ctrl.en = v.getLsbD 2 := rfl

@[simp] theorem clearSto_tmr : (clearSto s).tmr = s.tmr := rfl
@[simp] theorem clearSto_args : (clearSto s).args = s.args := rfl
@[simp] theorem clearSto_cfg : (clearSto s).cfg = s.cfg := rfl
@[simp] theorem clearSto_result : (clearSto s).result = s.result := rfl
@[simp] theorem clearSto_seq : (clearSto s).seq = s.seq := rfl
@[simp] theorem clearSto_buf : (clearSto s).buf = s.buf := rfl
@[simp] theorem clearSto_events : (clearSto s).events = s.events := rfl
@[simp] theorem clearSto_faults : (clearSto s).faults = s.faults := rfl
@[simp] theorem clearSto_readData : (clearSto s).readData = s.readData := rfl
@[simp] theorem clearSto_env : (clearSto s).env = s.env := rfl
@[simp] theorem clearSto_eng_code : (clearSto s).eng.code = s.eng.code := rfl
@[simp] theorem clearSto_eng_err : (clearSto s).eng.err = s.eng.err := rfl
@[simp] theorem clearSto_eng_ps : (clearSto s).eng.ps = s.eng.ps := rfl
@[simp] theorem clearSto_eng_data : (clearSto s).eng.data = s.eng.data := rfl
@[simp] theorem clearSto_eng_bitrate : (clearSto s).eng.bitrate = s.eng.bitrate := rfl
@[simp] theorem clearSto_eng_phase : (clearSto s).eng.phase = s.eng.phase := rfl
@[simp] theorem clearSto_eng_pending : (clearSto s).eng.pending = s.eng.pending := rfl
@[simp] theorem clearSto_eng_divisor : (clearSto s).eng.divisor = s.eng.divisor := rfl
@[simp] theorem clearSto_ctrl_int : (clearSto s).eng.ctrl.int = s.eng.ctrl.int := rfl
@[simp] theorem clearSto_ctrl_ea : (clearSto s).eng.ctrl.ea = s.eng.ctrl.ea := rfl
@[simp] theorem clearSto_ctrl_sta : (clearSto s).eng.ctrl.sta = s.eng.ctrl.sta := rfl
@[simp] theorem clearSto_ctrl_sto : (clearSto s).eng.ctrl.sto = false := rfl
@[simp] theorem clearSto_ctrl_sa : (clearSto s).eng.ctrl.sa = s.eng.ctrl.sa := rfl
@[simp] theorem clearSto_ctrl_en : (clearSto s).eng.ctrl.en = s.eng.ctrl.en := rfl

@[simp] theorem latchRate_tmr : (latchRate s).tmr = s.tmr := rfl
@[simp] theorem latchRate_args : (latchRate s).args = s.args := rfl
@[simp] theorem latchRate_cfg : (latchRate s).cfg = s.cfg := rfl
@[simp] theorem latchRate_result : (latchRate s).result = s.result := rfl
@[simp] theorem latchRate_seq : (latchRate s).seq = s.seq := rfl
@[simp] theorem latchRate_buf : (latchRate s).buf = s.buf := rfl
@[simp] theorem latchRate_events : (latchRate s).events = s.events := rfl
@[simp] theorem latchRate_faults : (latchRate s).faults = s.faults := rfl
@[simp] theorem latchRate_readData : (latchRate s).readData = s.readData := rfl
@[simp] theorem latchRate_env : (latchRate s).env = s.env := rfl
@[simp] theorem latchRate_eng_code : (latchRate s).eng.code = s.eng.code := rfl
@[simp] theorem latchRate_eng_err : (latchRate s).eng.err = s.eng.err := rfl
@[simp] theorem latchRate_eng_ps : (latchRate s).eng.ps = s.eng.ps := rfl
@[simp] theorem latchRate_eng_data : (latchRate s).eng.data = s.eng.data := rfl
@[simp] theorem latchRate_eng_bitrate : (latchRate s).eng.bitrate = s.eng.bitrate := rfl
@[simp] theorem latchRate_eng_phase : (latchRate s).eng.phase = s.eng.phase := rfl
@[simp] theorem latchRate_eng_pending : (latchRate s).eng.pending = s.eng.pending := rfl
@[simp] theorem latchRate_eng_divisor : (latchRate s).eng.divisor = Config.divisorOf s.eng.bitrate s.eng.ps := rfl
@[simp] theorem latchRate_ctrl_int : (latchRate s).eng.ctrl.int = s.eng.ctrl.int := rfl
@[simp] theorem latchRate_ctrl_ea : (latchRate s).eng.ctrl.ea = s.eng.ctrl.ea := rfl
@[simp] theorem latchRate_ctrl_sta : (latchRate s).eng.ctrl.sta = s.eng.ctrl.sta := rfl
@[simp] theorem latchRate_ctrl_sto : (latchRate s).eng.ctrl.sto = s.eng.ctrl.sto := rfl
@[simp] theorem latchRate_ctrl_sa : (latchRate s).eng.ctrl.sa = s.eng.ctrl.sa := rfl
@[simp] theorem latchRate_ctrl_en : (latchRate s).eng.ctrl.en = s.eng.ctrl.en := rfl

@[simp] theorem afterTurn_eng : s.afterTurn.eng = s.eng := by
  unfold State.afterTurn; split <;> rfl
@[simp] theorem afterTurn_tmr : s.afterTurn.tmr = s.tmr := by
  unfold State.afterTurn; split <;> rfl
@[simp] theorem afterTurn_args : s.afterTurn.args = s.args := by
  unfold State.afterTurn; split <;> rfl
@[simp] theorem afterTurn_cfg : s.afterTurn.cfg = s.cfg := by
  unfold State.afterTurn; split <;> rfl
@[simp] theorem afterTurn_result : s.afterTurn.result = s.result := by
  unfold State.afterTurn; split <;> rfl
@[simp] theorem afterTurn_seq : s.afterTurn.seq = s.seq := by
  unfold State.afterTurn; split <;> rfl
@[simp] theorem afterTurn_buf : s.afterTurn.buf = s.buf := by
  unfold State.afterTurn; split <;> rfl
@[simp] theorem afterTurn_events : s.afterTurn.events = s.events := by
  unfold State.afterTurn; split <;> rfl
@[simp] theorem afterTurn_faults : s.afterTurn.faults = s.faults := by
  unfold State.afterTurn; split <;> rfl
@[simp] theorem afterTurn_readData : s.afterTurn.readData = s.readData := by
  unfold State.afterTurn; split <;> rfl

@[simp] theorem afterAccess_eng : s.afterAccess.eng = s.eng := by
  unfold State.afterAccess; split <;> rfl
@[simp] theorem afterAccess_tmr : s.afterAccess.tmr = s.tmr := by
  unfold State.afterAccess; split <;> rfl
@[simp] theorem afterAccess_args : s.afterAccess.args = s.args := by
  unfold State.afterAccess; split <;> rfl
@[simp] theorem afterAccess_cfg : s.afterAccess.cfg = s.cfg := by
  unfold State.afterAccess; split <;> rfl
@[simp] theorem afterAccess_result : s.afterAccess.result = s.result := by
  unfold State.afterAccess; split <;> rfl
@[simp] theorem afterAccess_seq : s.afterAccess.seq = s.seq := by
  unfold State.afterAccess; split <;> rfl
@[simp] theorem afterAccess_buf : s.afterAccess.buf = s.buf := by
  unfold State.afterAccess; split <;> rfl
@[simp] theorem afterAccess_events : s.afterAccess.events = s.events := by
  unfold State.afterAccess; split <;> rfl
@[simp] theorem afterAccess_faults : s.afterAccess.faults = s.faults := by
  unfold State.afterAccess; split <;> rfl
@[simp] theorem afterAccess_readData : s.afterAccess.readData = s.readData := by
  unfold State.afterAccess; split <;> rfl

@[simp] theorem afterStart_eng : s.afterStart.eng = s.eng := by
  unfold State.afterStart; split <;> rfl
@[simp] theorem afterStart_tmr : s.afterStart.tmr = s.tmr := by
  unfold State.afterStart; split <;> rfl
@[simp] theorem afterStart_args : s.afterStart.args = s.args := by
  unfold State.afterStart; split <;> rfl
@[simp] theorem afterStart_cfg : s.afterStart.cfg = s.cfg := by
  unfold State.afterStart; split <;> rfl
@[simp] theorem afterStart_result : s.afterStart.result = s.result := by
  unfold State.afterStart; split <;> rfl
@[simp] theorem afterStart_seq : s.afterStart.seq = s.seq := by
  unfold State.afterStart; split <;> rfl
@[simp] theorem afterStart_buf : s.afterStart.buf = s.buf := by
  unfold State.afterStart; split <;> rfl
@[simp] theorem afterStart_events : s.afterStart.events = s.events := by
  unfold State.afterStart; split <;> rfl
@[simp] theorem afterStart_faults : s.afterStart.faults = s.faults := by
  unfold State.afterStart; split <;> rfl
@[simp] theorem afterStart_readData : s.afterStart.readData = s.readData := by
  unfold State.afterStart; split <;> rfl

@[simp] theorem afterTx_eng : s.afterTx.eng = s.eng := by
  unfold State.afterTx; split <;> rfl
@[simp] theorem afterTx_tmr : s.afterTx.tmr = s.tmr := by
  unfold State.afterTx; split <;> rfl
@[simp] theorem afterTx_args : s.afterTx.args = s.args := by
  unfold State.afterTx; split <;> rfl
@[simp] theorem afterTx_cfg : s.afterTx.cfg = s.cfg := by
  unfold State.afterTx; split <;> rfl
@[simp] theorem afterTx_result : s.afterTx.result = s.result := by
  unfold State.afterTx; split <;> rfl
@[simp] theorem afterTx_seq : s.afterTx.seq = s.seq := by
  unfold State.afterTx; split <;> rfl
@[simp] theorem afterTx_buf : s.afterTx.buf = s.buf := by
  unfold State.afterTx; split <;> rfl
@[simp] theorem afterTx_events : s.afterTx.events = s.events := by
  unfold State.afterTx; split <;> rfl
@[simp] theorem afterTx_faults : s.afterTx.faults = s.faults := by
  unfold State.afterTx; split <;> rfl
@[simp] theorem afterTx_readData : s.afterTx.readData = s.readData := by
  unfold State.afterTx; split <;> rfl

@[simp] theorem afterRx_eng : s.afterRx.eng = s.eng := by
  unfold State.afterRx; split <;> rfl
@[simp] theorem afterRx_tmr : s.afterRx.tmr = s.tmr := by
  unfold State.afterRx; split <;> rfl
@[simp] theorem afterRx_args : s.afterRx.args = s.args := by
  unfold State.afterRx; split <;> rfl
@[simp] theorem afterRx_cfg : s.afterRx.cfg = s.cfg := by
  unfold State.afterRx; split <;> rfl
@[simp] theorem afterRx_result : s.afterRx.result = s.result := by
  unfold State.afterRx; split <;> rfl
@[simp] theorem afterRx_seq : s.afterRx.seq = s.seq := by
  unfold State.afterRx; split <;> rfl
@[simp] theorem afterRx_buf : s.afterRx.buf = s.buf := by
  unfold State.afterRx; split <;> rfl
@[simp] theorem afterRx_events : s.afterRx.events = s.events := by
  unfold State.afterRx; split <;> rfl
@[simp] theorem afterRx_faults : s.afterRx.faults = s.faults := by
  unfold State.afterRx; split <;> rfl
@[simp] theorem afterRx_readData : s.afterRx.readData = s.readData := by
  unfold State.afterRx; split <;> rfl

end Sys2Proof.Machine
end

