-- ==== Sys2Proof/Laws/Memory.lean ====
section
/-! SUPPORT. The laws of memory: a read after a write, and the canonical form, which every write keeps
(20_memory.md R76). -/

namespace Sys2Proof.Machine

/-- An address below everything a memory lists reads as an unlisted one. -/
theorem Memory.read_below (m : Memory) (lo a : Nat) (h : Memory.wfAbove lo m = true) (ha : a < lo) :
    Memory.read m a = Memory.unlisted := by
  induction m generalizing lo with
  | nil => rfl
  | cons c m ih =>
    obtain ⟨b, x⟩ := c
    simp only [Memory.wfAbove, Bool.and_eq_true, decide_eq_true_eq] at h
    have hb : b ≠ a := by omega
    simp only [Memory.read, hb, if_false]
    exact ih (b + 1) h.2 (by omega)

/-- The byte written is read back, whatever it is (20_memory.md R76). -/
theorem Memory.read_write_same (m : Memory) (lo a : Nat) (v : Byte) (h : Memory.wfAbove lo m = true) :
    Memory.read (Memory.write m a v) a = v := by
  induction m generalizing lo with
  | nil =>
    by_cases hv : v = Memory.unlisted <;> simp [Memory.write, Memory.read, hv]
  | cons c m ih =>
    obtain ⟨b, x⟩ := c
    have h' := h
    simp only [Memory.wfAbove, Bool.and_eq_true, decide_eq_true_eq] at h
    rcases Nat.lt_trichotomy a b with hab | hab | hab
    · by_cases hv : v = Memory.unlisted
      · subst hv
        simp only [Memory.write, hab, if_true]
        exact Memory.read_below _ b a (by simpa [Memory.wfAbove] using ⟨⟨h.1.1.2, by simpa using h.1.2⟩, h.2⟩) hab
      · simp [Memory.write, Memory.read, hab, hv]
    · subst hab
      by_cases hv : v = Memory.unlisted
      · subst hv
        simpa [Memory.write] using Memory.read_below m (a + 1) a h.2 (by omega)
      · simp [Memory.write, Memory.read, hv]
    · have h1 : ¬ a < b := by omega
      have h2 : a ≠ b := by omega
      have h3 : b ≠ a := by omega
      simp only [Memory.write, Memory.read, h1, h2, h3, if_false]
      exact ih (b + 1) h.2

/-- A write leaves every other byte (20_memory.md R76). -/
theorem Memory.read_write_other (m : Memory) (a b : Nat) (v : Byte) (hab : b ≠ a) :
    Memory.read (Memory.write m a v) b = Memory.read m b := by
  induction m with
  | nil =>
    by_cases hv : v = Memory.unlisted <;> simp [Memory.write, Memory.read, hv, hab.symm]
  | cons c m ih =>
    obtain ⟨k, x⟩ := c
    by_cases h1 : a < k
    · by_cases hv : v = Memory.unlisted <;> simp [Memory.write, Memory.read, h1, hv, hab.symm]
    · by_cases h2 : a = k
      · subst h2
        by_cases hv : v = Memory.unlisted <;> simp [Memory.write, Memory.read, hv, hab.symm]
      · simp [Memory.write, Memory.read, h1, h2, ih]

/-- A write keeps the canonical form, above any bound the address respects. -/
theorem Memory.write_wfAbove (m : Memory) (lo a : Nat) (v : Byte) (h : Memory.wfAbove lo m = true)
    (hlo : lo ≤ a) (ha : a < 2 ^ 16) : Memory.wfAbove lo (Memory.write m a v) = true := by
  have ha' : a < 65536 := by omega
  induction m generalizing lo with
  | nil => by_cases hv : v = Memory.unlisted <;> simp [Memory.write, Memory.wfAbove, hv, hlo, ha']
  | cons c m ih =>
    obtain ⟨b, x⟩ := c
    have h' := h
    simp only [Memory.wfAbove, Bool.and_eq_true, decide_eq_true_eq] at h
    have hx : x ≠ Memory.unlisted := by simpa using h.1.2
    have hb : b < 65536 := by omega
    rcases Nat.lt_trichotomy a b with hab | hab | hab
    · by_cases hv : v = Memory.unlisted
      · simpa [Memory.write, hab, hv] using h'
      · simp [Memory.write, Memory.wfAbove, hab, hv, hlo, ha', hx, hb, h.2, Nat.succ_le_of_lt hab]
    · subst hab
      by_cases hv : v = Memory.unlisted
      · have hm : ∀ (k : Nat) (m : Memory), k ≤ a + 1 → Memory.wfAbove (a + 1) m = true →
            Memory.wfAbove k m = true := by
          intro k m hk hm
          cases m with
          | nil => rfl
          | cons d m =>
            obtain ⟨e, y⟩ := d
            simp only [Memory.wfAbove, Bool.and_eq_true, decide_eq_true_eq] at hm ⊢
            exact ⟨⟨⟨by omega, hm.1.1.2⟩, hm.1.2⟩, hm.2⟩
        simpa [Memory.write, hv] using hm lo m (by omega) h.2
      · simp [Memory.write, Memory.wfAbove, hv, hlo, ha', h.2]
    · have h1 : ¬ a < b := by omega
      have h2 : a ≠ b := by omega
      simp only [Memory.write, h1, h2, if_false, Memory.wfAbove, Bool.and_eq_true, decide_eq_true_eq]
      exact ⟨h.1, ih (b + 1) h.2 (by omega)⟩

/-- A write keeps the canonical form. -/
theorem Memory.write_wf (m : Memory) (a : Nat) (v : Byte) (h : Memory.wf m = true) (ha : a < 2 ^ 16) :
    Memory.wf (Memory.write m a v) = true :=
  Memory.write_wfAbove m 0 a v h (Nat.zero_le a) ha

/-- BUF keeps its canonical form under `MemWrite`. -/
theorem memWrite_wf (s : State) (a : Half) (v : Byte) (h : Memory.wf s.buf = true) :
    Memory.wf (s.memWrite a v).buf = true :=
  Memory.write_wf s.buf a.toNat v h a.isLt

/-- `MemRead` after `MemWrite` at the same address (20_memory.md R76). -/
theorem memRead_memWrite_same (s : State) (a : Half) (v : Byte) (h : Memory.wf s.buf = true) :
    (s.memWrite a v).memRead a = v :=
  Memory.read_write_same s.buf 0 a.toNat v h

/-- `MemRead` after `MemWrite` at another address (20_memory.md R76). -/
theorem memRead_memWrite_other (s : State) (a b : Half) (v : Byte) (hab : b ≠ a) :
    (s.memWrite a v).memRead b = s.memRead b :=
  Memory.read_write_other s.buf a.toNat b.toNat v fun h => hab (BitVec.eq_of_toNat_eq h)

/-- Nothing is listed at reset. -/
theorem reset_buf_wf : Memory.wf State.reset.buf = true := rfl

end Sys2Proof.Machine
end

