-- ==== Sys2Proof/Laws/Ops.lean ====
section
/-! SUPPORT. One lemma per shared operation that says what it does, to be cited in place of unfolding it. -/

namespace Sys2Proof.Machine

/-! ### Bytes and classes -/

section
variable (int ea sta sto sa en : Bool) (low : BitVec 2)

@[simp] theorem ctrlByte_bit7 : (ctrlByte int ea sta sto sa en low)[7] = int := by
  revert int ea sta sto sa en low; decide

@[simp] theorem ctrlByte_bit6 : (ctrlByte int ea sta sto sa en low)[6] = ea := by
  revert int ea sta sto sa en low; decide

@[simp] theorem ctrlByte_bit5 : (ctrlByte int ea sta sto sa en low)[5] = sta := by
  revert int ea sta sto sa en low; decide

@[simp] theorem ctrlByte_bit4 : (ctrlByte int ea sta sto sa en low)[4] = sto := by
  revert int ea sta sto sa en low; decide

@[simp] theorem ctrlByte_bit3 : (ctrlByte int ea sta sto sa en low)[3] = sa := by
  revert int ea sta sto sa en low; decide

@[simp] theorem ctrlByte_bit2 : (ctrlByte int ea sta sto sa en low)[2] = en := by
  revert int ea sta sto sa en low; decide

@[simp] theorem ctrlByte_bit1 : (ctrlByte int ea sta sto sa en low)[1] = low[1] := by
  revert int ea sta sto sa en low; decide

@[simp] theorem ctrlByte_bit0 : (ctrlByte int ea sta sto sa en low)[0] = low[0] := by
  revert int ea sta sto sa en low; decide
end

/-- The value of a low byte (20_memory.md R78). -/
theorem lowByte_toNat (x : Half) : (lowByte x).toNat = x.toNat % 256 := by
  simp [lowByte]

/-- The value of a high byte (20_memory.md R78). -/
theorem highByte_toNat (x : Half) : (highByte x).toNat = x.toNat / 256 := by
  have := x.isLt
  simp only [highByte, BitVec.extractLsb'_toNat, Nat.shiftRight_eq_div_pow]
  omega

/-- The value of two bytes, the high one first. -/
theorem append_toNat (a b : Byte) : (a ++ b : Half).toNat = a.toNat * 256 + b.toNat := by
  refine (BitVec.toNat_append a b).trans ?_
  rw [← Nat.shiftLeft_add_eq_or_of_lt b.isLt, Nat.shiftLeft_eq]

/-- The value of a quantity whose low byte was replaced. -/
theorem withLow_toNat (x : Half) (v : Byte) : (withLow x v).toNat = x.toNat / 256 * 256 + v.toNat := by
  rw [withLow, append_toNat, highByte_toNat]

/-- The value of a quantity whose high byte was replaced. -/
theorem withHigh_toNat (x : Half) (v : Byte) : (withHigh x v).toNat = v.toNat * 256 + x.toNat % 256 := by
  rw [withHigh, append_toNat, lowByte_toNat]

/-- The two bytes of a quantity put together are the quantity. -/
theorem highByte_append_lowByte (x : Half) : highByte x ++ lowByte x = x := by
  apply BitVec.eq_of_toNat_eq
  rw [append_toNat, highByte_toNat, lowByte_toNat]
  omega

/-- The class of each command byte the sequencer writes (30_encoding.md R107). -/
theorem ctrlClass_commands :
    ctrlClass cmdStart = .start ∧ ctrlClass cmdStop = .stop ∧ ctrlClass cmdRestartArm = .latch ∧
      ctrlClass cmdTransmit = .transfer ∧ ctrlClass cmdRecvAck = .transfer ∧ ctrlClass cmdRecvNack = .transfer := by
  decide

theorem writeCtrl_cmdStart (s : State) : writeCtrl cmdStart s = ctrlStart cmdStart s := by
  simp only [writeCtrl, ctrlClass_commands]

theorem writeCtrl_cmdStop (s : State) : writeCtrl cmdStop s = ctrlStop cmdStop s := by
  simp only [writeCtrl, ctrlClass_commands]

theorem writeCtrl_cmdRestartArm (s : State) :
    writeCtrl cmdRestartArm s = ctrlLatch cmdRestartArm s := by
  simp only [writeCtrl, ctrlClass_commands]

theorem writeCtrl_cmdTransmit (s : State) : writeCtrl cmdTransmit s = ctrlTransfer cmdTransmit s := by
  simp only [writeCtrl, ctrlClass_commands]

theorem writeCtrl_cmdRecvAck (s : State) : writeCtrl cmdRecvAck s = ctrlTransfer cmdRecvAck s := by
  simp only [writeCtrl, ctrlClass_commands]

theorem writeCtrl_cmdRecvNack (s : State) : writeCtrl cmdRecvNack s = ctrlTransfer cmdRecvNack s := by
  simp only [writeCtrl, ctrlClass_commands]

/-- The status code is CODE, whatever ERR and PS are (10_state.md R32). -/
theorem statusCode_eq (s : State) : statusCode s = s.eng.code ++ 0#3 := by
  have h : ∀ (c : BitVec 5) (e : Bool) (p : BitVec 2), (c ++ BitVec.ofBool e ++ p) &&& 0xF8#8 = c ++ 0#3 := by
    decide
  exact h _ _ _

/-! ### Checks -/

@[simp] theorem hostWrite_busy (off : Offset) (v : Byte) (f : State → State) (s : State)
    (h : s.seq.busy = true) : hostWrite off v f s = s.raise .hostWriteBusy off v := by
  simp [hostWrite, h]

@[simp] theorem hostWrite_free (off : Offset) (v : Byte) (f : State → State) (s : State)
    (h : s.seq.busy = false) : hostWrite off v f s = f s := by
  simp [hostWrite, h]

@[simp] theorem unlessPending_free (off : Offset) (v : Byte) (f : State → State) (s : State)
    (h : s.eng.pending = none) : unlessPending off v f s = f s := by
  simp [unlessPending, h]

@[simp] theorem unlessPending_pending (off : Offset) (v : Byte) (f : State → State) (s : State) (c : Cmd)
    (h : s.eng.pending = some c) : unlessPending off v f s = s.raise .engineBusy off v := by
  simp [unlessPending, h]

@[simp] theorem ctrlStop_free (v : Byte) (s : State) (h : s.eng.pending = none) :
    ctrlStop v s = stopCmd (latchRate (storeCtrl v s)) := by
  simp [ctrlStop, h]

@[simp] theorem ctrlStop_pending (v : Byte) (s : State) (c : Cmd) (h : s.eng.pending = some c) :
    ctrlStop v s = abortStop c v (latchRate s) := by
  simp [ctrlStop, h]

/-! ### Draws -/

@[simp] theorem readDrawn_holds (v : Byte) (s : State) : s.readDrawn (.holds v) = (v, s) := rfl

@[simp] theorem readDrawn_unspecified (s : State) :
    s.readDrawn .unspecified = (Config.freeByte s.env.draws, s.drawn) := rfl

/-- A read of DATA takes at most a draw. -/
theorem readDataReg_state (s : State) : (readDataReg s).2 = s ∨ (readDataReg s).2 = s.drawn := by
  unfold readDataReg State.readDrawn
  split
  · exact .inr rfl
  · split
    · exact .inl rfl
    · exact .inr rfl

/-! ### Engine -/

/-- Everything a launch does (43_bus_primitives.md R224). -/
theorem launch_eq (c : Cmd) (s : State) :
    launch c s =
      { s with
        eng := { s.eng with
          ctrl := { s.eng.ctrl with int := false }
          code := 0x1F#5
          pending := some c } } := rfl

/-- Everything `cmd_error()` does (43_bus_primitives.md R231). -/
theorem cmdError_eq (s : State) :
    cmdError s =
      { s with eng := { s.eng with ctrl := { s.eng.ctrl with int := true }, code := 0x1E#5 } } := rfl

/-- Everything a STOP or a disable does to the bus (43_bus_primitives.md R227, R233). -/
theorem leaveBus_eq (e : Event) (s : State) :
    leaveBus e s =
      { s with
        eng := { s.eng with ctrl := { s.eng.ctrl with int := false }, code := 0x1F#5, phase := .idle }
        events := if s.eng.phase = .idle then s.events else s.events ++ [e] } := by
  by_cases h : s.eng.phase = .idle <;> simp [leaveBus, h] <;> rfl

/-- Everything an abort does (43_bus_primitives.md R228). -/
theorem abortStop_eq (c : Cmd) (v : Byte) (s : State) :
    abortStop c v s =
      { s with
        eng := { s.eng with
          ctrl := ⟨false, v.getLsbD 6, v.getLsbD 5, false, v.getLsbD 3, v.getLsbD 2⟩
          code := 0x1F#5
          phase := .idle
          pending := none
          data := match c with
            | .dataRx _ => .unspecified
            | _ => s.eng.data }
        events := s.events ++ [.abort c, .stop] } := by
  cases c <;> simp [abortStop, spoilData, State.emit, storeCtrl, clearSto, State.setPending, State.setInt,
    State.setCode, State.setPhase, State.setData, scNoInfo]

/-- A completion touches the engine, the event history and the answers that are left. -/
theorem completeCmd_frame (c : Cmd) (s : State) :
    (completeCmd c s).tmr = s.tmr ∧ (completeCmd c s).args = s.args ∧ (completeCmd c s).cfg = s.cfg ∧
      (completeCmd c s).result = s.result ∧ (completeCmd c s).seq = s.seq ∧ (completeCmd c s).buf = s.buf ∧
      (completeCmd c s).faults = s.faults ∧ (completeCmd c s).readData = s.readData := by
  cases c with
  | start k => cases h : s.startAnswer <;> simp [completeCmd, completeStart, h]
  | addrTx b =>
    cases h : s.txAnswer <;> by_cases hb : b[0] = true <;>
      simp [completeCmd, completeAddr, loseArbitration, h, hb]
  | dataTx b => cases h : s.txAnswer <;> simp [completeCmd, completeTx, loseArbitration, h]
  | dataRx a =>
    cases h : s.rxAnswer <;> cases a <;> simp [completeCmd, completeRx, loseArbitration, h]

/-- The engine's step: nothing without a command, else its completion (43_bus_primitives.md R229). -/
theorem engineStep_cases (s : State) :
    (s.eng.pending = none ∧ engineStep s = s) ∨
      ∃ c, s.eng.pending = some c ∧ engineStep s = ((completeCmd c s).setPending none).setInt true := by
  unfold engineStep
  cases h : s.eng.pending with
  | none => exact .inl ⟨rfl, rfl⟩
  | some c => exact .inr ⟨c, rfl, rfl⟩

/-! ### Register writes -/

/-- A write to CTRL touches the engine, the histories and the draws; nothing else. -/
theorem writeCtrl_frame (v : Byte) (s : State) :
    (writeCtrl v s).tmr = s.tmr ∧ (writeCtrl v s).args = s.args ∧ (writeCtrl v s).cfg = s.cfg ∧
      (writeCtrl v s).result = s.result ∧ (writeCtrl v s).seq = s.seq ∧ (writeCtrl v s).buf = s.buf ∧
      (writeCtrl v s).readData = s.readData := by
  unfold writeCtrl
  split
  · simp [ctrlReservedLow]
  · cases h : s.eng.pending <;> simp [ctrlDisable, h, disableEngine, leaveBus_eq]
  · cases h : s.eng.pending <;> simp [ctrlLatch, h]
  · cases h : s.eng.pending with
    | some c => simp [ctrlTransfer, h]
    | none =>
      simp only [ctrlTransfer, h, unlessPending_free, launchTransfer, latchRate_eng_phase, storeCtrl_eng_phase,
        latchRate_eng_data, storeCtrl_eng_data]
      split <;> (try cases hd : s.eng.data) <;> simp [launch_eq, cmdError_eq]
  · cases h : s.eng.pending <;> simp [h, stopCmd, leaveBus_eq, abortStop_eq]
  · cases h : s.eng.pending <;> simp [ctrlStart, h, launchStart, launch_eq]
  · cases h : s.eng.pending <;> simp [ctrlReservedStasto, h]

/-- A write to DATA touches the engine and the fault list. -/
theorem writeData_cases (v : Byte) (s : State) :
    (s.eng.pending = none ∧ writeData v s = s.setData (.holds v)) ∨
      ((∃ c, s.eng.pending = some c) ∧ writeData v s = s.raise .engineBusy offData v) := by
  cases h : s.eng.pending with
  | none => exact .inl ⟨rfl, by simp [writeData, h]⟩
  | some c => exact .inr ⟨⟨c, rfl⟩, by simp [writeData, h]⟩

/-- A write to STATUS changes PS and ERR, or is refused. -/
theorem writeStatus_cases (v : Byte) (s : State) :
    (s.eng.pending = none ∧
        writeStatus v s =
          { s with
            eng := { s.eng with
              ps := v.extractLsb' 0 2
              err := if v.getLsbD 2 then false else s.eng.err } }) ∨
      ((∃ c, s.eng.pending = some c) ∧ writeStatus v s = s.raise .engineBusy offStatus v) := by
  cases h : s.eng.pending with
  | none => exact .inl ⟨rfl, by simp [writeStatus, h]⟩
  | some c => exact .inr ⟨⟨c, rfl⟩, by simp [writeStatus, h]⟩

/-- A write to BITRATE changes BITRATE, or is refused. -/
theorem writeBitrate_cases (v : Byte) (s : State) :
    (s.eng.pending = none ∧ writeBitrate v s = { s with eng := { s.eng with bitrate := v } }) ∨
      ((∃ c, s.eng.pending = some c) ∧ writeBitrate v s = s.raise .engineBusy offBitrate v) := by
  cases h : s.eng.pending with
  | none => exact .inl ⟨rfl, by simp [writeBitrate, h]⟩
  | some c => exact .inr ⟨⟨c, rfl⟩, by simp [writeBitrate, h]⟩

/-! Where a write of an engine register leaves the state as it is: field by field. -/

section
variable (v : Byte) (s : State)

@[simp] theorem writeCtrl_tmr : (writeCtrl v s).tmr = s.tmr := (writeCtrl_frame v s).1
@[simp] theorem writeCtrl_args : (writeCtrl v s).args = s.args := (writeCtrl_frame v s).2.1
@[simp] theorem writeCtrl_cfg : (writeCtrl v s).cfg = s.cfg := (writeCtrl_frame v s).2.2.1
@[simp] theorem writeCtrl_result : (writeCtrl v s).result = s.result := (writeCtrl_frame v s).2.2.2.1
@[simp] theorem writeCtrl_seq : (writeCtrl v s).seq = s.seq := (writeCtrl_frame v s).2.2.2.2.1
@[simp] theorem writeCtrl_buf : (writeCtrl v s).buf = s.buf := (writeCtrl_frame v s).2.2.2.2.2.1
@[simp] theorem writeCtrl_readData : (writeCtrl v s).readData = s.readData :=
  (writeCtrl_frame v s).2.2.2.2.2.2

/-- A write to DATA, STATUS or BITRATE touches the engine and the fault list. -/
theorem unlessPending_frame (off : Offset) (f : Eng → Eng) :
    ∃ e fs, unlessPending off v (fun s => { s with eng := f s.eng }) s = { s with eng := e, faults := fs } := by
  cases h : s.eng.pending with
  | none => exact ⟨f s.eng, s.faults, by simp [h]⟩
  | some c => exact ⟨_, _, by rw [unlessPending_pending _ _ _ _ c h]; rfl⟩

theorem writeData_frame : ∃ e fs, writeData v s = { s with eng := e, faults := fs } :=
  unlessPending_frame v s offData fun e => { e with data := .holds v }

theorem writeBitrate_frame : ∃ e fs, writeBitrate v s = { s with eng := e, faults := fs } :=
  unlessPending_frame v s offBitrate fun e => { e with bitrate := v }

theorem writeStatus_frame : ∃ e fs, writeStatus v s = { s with eng := e, faults := fs } :=
  unlessPending_frame v s offStatus fun e =>
    { e with ps := v.extractLsb' 0 2, err := if v.getLsbD 2 then false else e.err }

@[simp] theorem writeData_tmr : (writeData v s).tmr = s.tmr := by
  obtain ⟨e, fs, h⟩ := writeData_frame v s; rw [h]
@[simp] theorem writeData_cfg : (writeData v s).cfg = s.cfg := by
  obtain ⟨e, fs, h⟩ := writeData_frame v s; rw [h]
@[simp] theorem writeData_result : (writeData v s).result = s.result := by
  obtain ⟨e, fs, h⟩ := writeData_frame v s; rw [h]
@[simp] theorem writeData_seq : (writeData v s).seq = s.seq := by
  obtain ⟨e, fs, h⟩ := writeData_frame v s; rw [h]
@[simp] theorem writeData_buf : (writeData v s).buf = s.buf := by
  obtain ⟨e, fs, h⟩ := writeData_frame v s; rw [h]

@[simp] theorem writeBitrate_tmr : (writeBitrate v s).tmr = s.tmr := by
  obtain ⟨e, fs, h⟩ := writeBitrate_frame v s; rw [h]
@[simp] theorem writeBitrate_cfg : (writeBitrate v s).cfg = s.cfg := by
  obtain ⟨e, fs, h⟩ := writeBitrate_frame v s; rw [h]
@[simp] theorem writeBitrate_result : (writeBitrate v s).result = s.result := by
  obtain ⟨e, fs, h⟩ := writeBitrate_frame v s; rw [h]
@[simp] theorem writeBitrate_seq : (writeBitrate v s).seq = s.seq := by
  obtain ⟨e, fs, h⟩ := writeBitrate_frame v s; rw [h]
@[simp] theorem writeBitrate_buf : (writeBitrate v s).buf = s.buf := by
  obtain ⟨e, fs, h⟩ := writeBitrate_frame v s; rw [h]

@[simp] theorem writeStatus_tmr : (writeStatus v s).tmr = s.tmr := by
  obtain ⟨e, fs, h⟩ := writeStatus_frame v s; rw [h]
@[simp] theorem writeStatus_cfg : (writeStatus v s).cfg = s.cfg := by
  obtain ⟨e, fs, h⟩ := writeStatus_frame v s; rw [h]
@[simp] theorem writeStatus_result : (writeStatus v s).result = s.result := by
  obtain ⟨e, fs, h⟩ := writeStatus_frame v s; rw [h]
@[simp] theorem writeStatus_seq : (writeStatus v s).seq = s.seq := by
  obtain ⟨e, fs, h⟩ := writeStatus_frame v s; rw [h]
@[simp] theorem writeStatus_buf : (writeStatus v s).buf = s.buf := by
  obtain ⟨e, fs, h⟩ := writeStatus_frame v s; rw [h]

@[simp] theorem readDataReg_tmr : (readDataReg s).2.tmr = s.tmr := by
  rcases readDataReg_state s with h | h <;> simp [h]
@[simp] theorem readDataReg_cfg : (readDataReg s).2.cfg = s.cfg := by
  rcases readDataReg_state s with h | h <;> simp [h]
@[simp] theorem readDataReg_result : (readDataReg s).2.result = s.result := by
  rcases readDataReg_state s with h | h <;> simp [h]
@[simp] theorem readDataReg_seq : (readDataReg s).2.seq = s.seq := by
  rcases readDataReg_state s with h | h <;> simp [h]
@[simp] theorem readDataReg_buf : (readDataReg s).2.buf = s.buf := by
  rcases readDataReg_state s with h | h <;> simp [h]
@[simp] theorem readDataReg_eng : (readDataReg s).2.eng = s.eng := by
  rcases readDataReg_state s with h | h <;> simp [h]
end

/-! ### Sequencer -/

@[simp] theorem runCall_wait {L : Type} (s : State) (w : L → SeqPos) (k : TransferOutcome → State → State) :
    runCall .wait s w k = s := rfl

@[simp] theorem runCall_line {L : Type} (l : L) (t s : State) (w : L → SeqPos)
    (k : TransferOutcome → State → State) : runCall (.line l t) s w k = t.goto (w l) := rfl

@[simp] theorem runCall_ret {L : Type} (o : TransferOutcome) (t s : State) (w : L → SeqPos)
    (k : TransferOutcome → State → State) : runCall (.ret o t : Flow L) s w k = k o t := rfl

/-- Everything the end of an operation does (40_register_interface.md R154). -/
theorem finish_eq (o : TransferOutcome) (s : State) :
    finish o s =
      { s with
        seq := { s.seq with
          outcome := if returnsOutcome s.seq.op then o else s.seq.outcome
          busy := false
          pos := .none } } := rfl

@[simp] theorem sequencerStep_idle (checks : Bool) (s : State) (h : s.seq.busy = false) :
    sequencerStep checks s = s := by
  simp [sequencerStep, h]

@[simp] theorem sequencerStep_busy (checks : Bool) (s : State) (h : s.seq.busy = true) :
    sequencerStep checks s = seqLine checks s := by
  simp [sequencerStep, h]

/-! ### Steps -/

/-- A step is the move of the agent whose turn it is, the turn taken. -/
theorem step_of_turn (s : State) :
    step s =
      match s.turn with
      | .host => exec (decode s.afterTurn.access) s.afterTurn.afterAccess
      | .sequencer => .next (sequencerStep Config.writeChecksStart s.afterTurn)
      | .engine => .next (engineStep s.afterTurn)
      | .timer => .next (timerStep s.afterTurn)
      | .reset => .next (resetEvent s.afterTurn)
      | .bufWrite a v => .next (s.afterTurn.memWrite a v) := rfl

end Sys2Proof.Machine
end

