-- ==== Sys2Proof/Laws/Exec.lean ====
section
/-! SUPPORT. What an access can be, said once for all instructions: a read of a register, or a write of one
(40_register_interface.md R140). -/

namespace Sys2Proof.Machine

/-- The writes of the registers, of the byte `v` (40_register_interface.md R142 to R176). -/
inductive RegisterWrite (v : Byte) : (State → State) → Prop where
  | ctrl : RegisterWrite v (writeCtrl v)
  | status : RegisterWrite v (writeStatus v)
  | data : RegisterWrite v (writeData v)
  | bitrate : RegisterWrite v (writeBitrate v)
  | tmrCtl : RegisterWrite v (writeTmrCtl v)
  | argument (f : Args → Args) : RegisterWrite v (fun s => { s with args := f s.args })
  | ignored : RegisterWrite v writeIgnored
  | operation (p : SeqPos) (hp : p ≠ .none) (ho : opcOf p = v.extractLsb' 0 4) (hl : insideLoop p = false)
      (hw : delayWaits p = false) : RegisterWrite v (startOp v p)
  | reserved : RegisterWrite v (opReserved v)

/-! The class of a CTRL byte put together from its fields (30_encoding.md R104). -/

theorem ctrlClass_reservedLow (int ea sta sto sa en : Bool) :
    ctrlClass (ctrlByte int ea sta sto sa en 1#2) = .reservedLow ∧
      ctrlClass (ctrlByte int ea sta sto sa en 2#2) = .reservedLow ∧
        ctrlClass (ctrlByte int ea sta sto sa en 3#2) = .reservedLow := by
  revert int ea sta sto sa en; decide

theorem ctrlClass_disable (int ea sta sto sa : Bool) :
    ctrlClass (ctrlByte int ea sta sto sa false 0#2) = .disable := by
  revert int ea sta sto sa; decide

theorem ctrlClass_latch (ea sta sto sa : Bool) :
    ctrlClass (ctrlByte false ea sta sto sa true 0#2) = .latch := by
  revert ea sta sto sa; decide

theorem ctrlClass_launching (ea sa : Bool) :
    ctrlClass (ctrlByte true ea false false sa true 0#2) = .transfer ∧
      ctrlClass (ctrlByte true ea false true sa true 0#2) = .stop ∧
        ctrlClass (ctrlByte true ea true false sa true 0#2) = .start ∧
          ctrlClass (ctrlByte true ea true true sa true 0#2) = .reservedStasto := by
  revert ea sa; decide

/-- A meaning of a CTRL write is `writeCtrl` of its byte. -/
theorem RegisterWrite.of_class (v : Byte) (f : State → State) (h : ∀ s, writeCtrl v s = f s) :
    RegisterWrite v f := by
  have : writeCtrl v = f := funext h
  exact this ▸ .ctrl

/-- An access is a read, which takes at most a draw or loads the latch, or a write of a register, which the busy
check comes before (40_register_interface.md R140; 20_memory.md R73). -/
theorem exec_cases (i : Instr) (s : State) :
    (AccessWord.we (encode i) = false ∧ ∃ r : Byte × State, exec i s = .next (hostRead r) ∧
      (r.2 = s ∨ r.2 = s.drawn ∨
        (AccessWord.off (encode i) = 0x05#5 ∧
          r.2 = { s with tmr := { s.tmr with hlatch := highByte s.tmr.cnt } }))) ∨
    (AccessWord.we (encode i) = true ∧ ∃ f : State → State, RegisterWrite (AccessWord.d (encode i)) f ∧
      exec i s = .next (hostWrite (AccessWord.off (encode i)) (AccessWord.d (encode i)) f s)) := by
  cases i <;>
    simp only [encode, readWord, writeWord, we_accessWord, off_accessWord, d_accessWord, false_and, or_false,
      false_or, true_and, Bool.false_eq_true, Bool.true_eq_false]
  case rdData =>
    refine ⟨readDataReg s, rfl, ?_⟩
    rcases readDataReg_state s with h | h <;> simp [h]
  case rdTmrCntL => exact ⟨readTmrCntL s, rfl, .inr (.inr rfl)⟩
  case rdResult =>
    refine ⟨readResultReg s, rfl, ?_⟩
    cases h : s.result <;> simp [readResultReg, h]
  case wrStatus v => exact ⟨_, .status, rfl⟩
  case wrData v => exact ⟨_, .data, rfl⟩
  case wrBitrate v => exact ⟨_, .bitrate, rfl⟩
  case wrTmrCtl v => exact ⟨_, .tmrCtl, rfl⟩
  case wrArgA v => exact ⟨_, .argument (fun x => { x with a := v }), rfl⟩
  case wrArgB v => exact ⟨_, .argument (fun x => { x with b := v }), rfl⟩
  case wrArgM v => exact ⟨_, .argument (fun x => { x with m := v }), rfl⟩
  case wrArgNL v => exact ⟨_, .argument (fun x => { x with n := withLow x.n v }), rfl⟩
  case wrArgNH v => exact ⟨_, .argument (fun x => { x with n := withHigh x.n v }), rfl⟩
  case wrArgPL v => exact ⟨_, .argument (fun x => { x with p := withLow x.p v }), rfl⟩
  case wrArgPH v => exact ⟨_, .argument (fun x => { x with p := withHigh x.p v }), rfl⟩
  all_goals first
    | exact ⟨(_, s), rfl, .inl rfl⟩
    | exact ⟨_, .ignored, rfl⟩
    | exact ⟨_, .reserved, rfl⟩
    | exact ⟨_, .operation _ (by decide) (by decide) (by decide) (by decide), rfl⟩
    | refine ⟨_, RegisterWrite.of_class _ _ fun s => ?_, rfl⟩
      simp only [writeCtrl, ctrlClass_reservedLow, ctrlClass_disable, ctrlClass_latch, ctrlClass_launching]

end Sys2Proof.Machine
end

