-- ==== Sys2Proof/Laws/PerInstr.lean ====
section
/-! SUPPORT. Laws stated per instruction: the word an instruction is encoded as is one of its row's words
(30_encoding.md R101). -/

namespace Sys2Proof.Laws.EncodedRow

/-- The encoding of a well-formed instruction has the fixed bits of its row of the opcode table. -/
def Statement (i : Instr) : Prop := i.WellFormed → i.row.admits (encode i) = true

theorem rdCtrl : Statement .rdCtrl := by
  intro _; decide

theorem rdStatus : Statement .rdStatus := by
  intro _; decide

theorem rdData : Statement .rdData := by
  intro _; decide

theorem rdBitrate : Statement .rdBitrate := by
  intro _; decide

theorem rdTmrCtl : Statement .rdTmrCtl := by
  intro _; decide

theorem rdTmrCntL : Statement .rdTmrCntL := by
  intro _; decide

theorem rdTmrCntH : Statement .rdTmrCntH := by
  intro _; decide

theorem rdRsv07 : Statement .rdRsv07 := by
  intro _; decide

theorem rdOp : Statement .rdOp := by
  intro _; decide

theorem rdSeqStat : Statement .rdSeqStat := by
  intro _; decide

theorem rdArgA : Statement .rdArgA := by
  intro _; decide

theorem rdArgB : Statement .rdArgB := by
  intro _; decide

theorem rdArgM : Statement .rdArgM := by
  intro _; decide

theorem rdResult : Statement .rdResult := by
  intro _; decide

theorem rdArgNL : Statement .rdArgNL := by
  intro _; decide

theorem rdArgNH : Statement .rdArgNH := by
  intro _; decide

theorem rdArgPL : Statement .rdArgPL := by
  intro _; decide

theorem rdArgPH : Statement .rdArgPH := by
  intro _; decide

theorem rdCfgTicksL : Statement .rdCfgTicksL := by
  intro _; decide

theorem rdCfgTicksH : Statement .rdCfgTicksH := by
  intro _; decide

theorem rdCfgRetries : Statement .rdCfgRetries := by
  intro _; decide

theorem rdRsv15 : Statement .rdRsv15 := by
  intro _; decide

theorem rdRsv16 : Statement .rdRsv16 := by
  intro _; decide

theorem rdRsv17 : Statement .rdRsv17 := by
  intro _; decide

theorem rdRsv18 : Statement .rdRsv18 := by
  intro _; decide

theorem rdRsv19 : Statement .rdRsv19 := by
  intro _; decide

theorem rdRsv1A : Statement .rdRsv1A := by
  intro _; decide

theorem rdRsv1B : Statement .rdRsv1B := by
  intro _; decide

theorem rdRsv1C : Statement .rdRsv1C := by
  intro _; decide

theorem rdRsv1D : Statement .rdRsv1D := by
  intro _; decide

theorem rdRsv1E : Statement .rdRsv1E := by
  intro _; decide

theorem rdRsv1F : Statement .rdRsv1F := by
  intro _; decide

theorem wrStatus (v : Byte) : Statement (.wrStatus v) := by
  revert v; unfold Statement; decide

theorem wrData (v : Byte) : Statement (.wrData v) := by
  revert v; unfold Statement; decide

theorem wrBitrate (v : Byte) : Statement (.wrBitrate v) := by
  revert v; unfold Statement; decide

theorem wrTmrCtl (v : Byte) : Statement (.wrTmrCtl v) := by
  revert v; unfold Statement; decide

theorem wrRoTmrCntL (v : Byte) : Statement (.wrRoTmrCntL v) := by
  revert v; unfold Statement; decide

theorem wrRoTmrCntH (v : Byte) : Statement (.wrRoTmrCntH v) := by
  revert v; unfold Statement; decide

theorem wrRsv07 (v : Byte) : Statement (.wrRsv07 v) := by
  revert v; unfold Statement; decide

theorem wrRoSeqStat (v : Byte) : Statement (.wrRoSeqStat v) := by
  revert v; unfold Statement; decide

theorem wrArgA (v : Byte) : Statement (.wrArgA v) := by
  revert v; unfold Statement; decide

theorem wrArgB (v : Byte) : Statement (.wrArgB v) := by
  revert v; unfold Statement; decide

theorem wrArgM (v : Byte) : Statement (.wrArgM v) := by
  revert v; unfold Statement; decide

theorem wrRoResult (v : Byte) : Statement (.wrRoResult v) := by
  revert v; unfold Statement; decide

theorem wrArgNL (v : Byte) : Statement (.wrArgNL v) := by
  revert v; unfold Statement; decide

theorem wrArgNH (v : Byte) : Statement (.wrArgNH v) := by
  revert v; unfold Statement; decide

theorem wrArgPL (v : Byte) : Statement (.wrArgPL v) := by
  revert v; unfold Statement; decide

theorem wrArgPH (v : Byte) : Statement (.wrArgPH v) := by
  revert v; unfold Statement; decide

theorem wrRoCfgTicksL (v : Byte) : Statement (.wrRoCfgTicksL v) := by
  revert v; unfold Statement; decide

theorem wrRoCfgTicksH (v : Byte) : Statement (.wrRoCfgTicksH v) := by
  revert v; unfold Statement; decide

theorem wrRoCfgRetries (v : Byte) : Statement (.wrRoCfgRetries v) := by
  revert v; unfold Statement; decide

theorem wrRsv15 (v : Byte) : Statement (.wrRsv15 v) := by
  revert v; unfold Statement; decide

theorem wrRsv16 (v : Byte) : Statement (.wrRsv16 v) := by
  revert v; unfold Statement; decide

theorem wrRsv17 (v : Byte) : Statement (.wrRsv17 v) := by
  revert v; unfold Statement; decide

theorem wrRsv18 (v : Byte) : Statement (.wrRsv18 v) := by
  revert v; unfold Statement; decide

theorem wrRsv19 (v : Byte) : Statement (.wrRsv19 v) := by
  revert v; unfold Statement; decide

theorem wrRsv1A (v : Byte) : Statement (.wrRsv1A v) := by
  revert v; unfold Statement; decide

theorem wrRsv1B (v : Byte) : Statement (.wrRsv1B v) := by
  revert v; unfold Statement; decide

theorem wrRsv1C (v : Byte) : Statement (.wrRsv1C v) := by
  revert v; unfold Statement; decide

theorem wrRsv1D (v : Byte) : Statement (.wrRsv1D v) := by
  revert v; unfold Statement; decide

theorem wrRsv1E (v : Byte) : Statement (.wrRsv1E v) := by
  revert v; unfold Statement; decide

theorem wrRsv1F (v : Byte) : Statement (.wrRsv1F v) := by
  revert v; unfold Statement; decide

theorem wrCtrlReservedLow1 (int ea sta sto sa en : Bool) : Statement (.wrCtrlReservedLow1 int ea sta sto sa en) := by
  revert int ea sta sto sa en; unfold Statement; decide

theorem wrCtrlReservedLow2 (int ea sta sto sa en : Bool) : Statement (.wrCtrlReservedLow2 int ea sta sto sa en) := by
  revert int ea sta sto sa en; unfold Statement; decide

theorem wrCtrlReservedLow3 (int ea sta sto sa en : Bool) : Statement (.wrCtrlReservedLow3 int ea sta sto sa en) := by
  revert int ea sta sto sa en; unfold Statement; decide

theorem wrCtrlDisable (int ea sta sto sa : Bool) : Statement (.wrCtrlDisable int ea sta sto sa) := by
  revert int ea sta sto sa; unfold Statement; decide

theorem wrCtrlLatch (ea sta sto sa : Bool) : Statement (.wrCtrlLatch ea sta sto sa) := by
  revert ea sta sto sa; unfold Statement; decide

theorem wrCtrlTransfer (ea sa : Bool) : Statement (.wrCtrlTransfer ea sa) := by
  revert ea sa; unfold Statement; decide

theorem wrCtrlStop (ea sa : Bool) : Statement (.wrCtrlStop ea sa) := by
  revert ea sa; unfold Statement; decide

theorem wrCtrlStart (ea sa : Bool) : Statement (.wrCtrlStart ea sa) := by
  revert ea sa; unfold Statement; decide

theorem wrCtrlReservedStasto (ea sa : Bool) : Statement (.wrCtrlReservedStasto ea sa) := by
  revert ea sa; unfold Statement; decide

theorem opInit : Statement .opInit := by
  intro _; decide

theorem opStart : Statement .opStart := by
  intro _; decide

theorem opStop : Statement .opStop := by
  intro _; decide

theorem opRestart : Statement .opRestart := by
  intro _; decide

theorem opWriteByte : Statement .opWriteByte := by
  intro _; decide

theorem opReadByte : Statement .opReadByte := by
  intro _; decide

theorem opWrite : Statement .opWrite := by
  intro _; decide

theorem opWriteR : Statement .opWriteR := by
  intro _; decide

theorem opRead : Statement .opRead := by
  intro _; decide

theorem opReadR : Statement .opReadR := by
  intro _; decide

theorem opDelay : Statement .opDelay := by
  intro _; decide

theorem opReservedHi80 (v : Byte) : Statement (.opReservedHi80 v) := by
  revert v; unfold Statement; decide

theorem opReservedHi40 (v : Byte) : Statement (.opReservedHi40 v) := by
  revert v; unfold Statement; decide

theorem opReservedHi20 (v : Byte) : Statement (.opReservedHi20 v) := by
  revert v; unfold Statement; decide

theorem opReservedOpc0 (v : Byte) : Statement (.opReservedOpc0 v) := by
  revert v; unfold Statement; decide

theorem opReservedOpcAb (v : Byte) : Statement (.opReservedOpcAb v) := by
  revert v; unfold Statement; decide

theorem opReservedOpcCf (v : Byte) : Statement (.opReservedOpcCf v) := by
  revert v; unfold Statement; decide

theorem opReservedR11 : Statement .opReservedR11 := by
  intro _; decide

theorem opReservedR12 (v : Byte) : Statement (.opReservedR12 v) := by
  revert v; unfold Statement; decide

theorem opReservedR14 (v : Byte) : Statement (.opReservedR14 v) := by
  revert v; unfold Statement; decide

theorem opReservedR16 : Statement .opReservedR16 := by
  intro _; decide

theorem opReservedR19 : Statement .opReservedR19 := by
  intro _; decide

end Sys2Proof.Laws.EncodedRow
end

