-- ==== Sys2Proof/Laws/Schedule.lean ====
section
/-! SUPPORT. The schedules in which the other agents move before each line of the sequencer: a run of `m + n` lines is
one of `n` after one of `m`, ticks touch the timer alone, and with nothing pending the engine does not move. -/

namespace Sys2Proof.Machine

theorem schedule_add (others : State → State) (m n : Nat) (s : State) :
    schedule others (m + n) s = schedule others n (schedule others m s) := by
  induction m generalizing s with
  | zero => simp [schedule]
  | succ m ih => rw [Nat.succ_add, schedule, schedule, ih]

theorem visits_add (others : State → State) (p : SeqPos) (m n : Nat) (s : State) :
    visits others p (m + n) s = visits others p m s + visits others p n (schedule others m s) := by
  induction m generalizing s with
  | zero => simp [visits, schedule]
  | succ m ih => rw [Nat.succ_add, visits, visits, schedule, ih, Nat.add_assoc]

theorem ticks_frame (k : Nat) (s : State) : ticks k s = { s with tmr := (ticks k s).tmr } := by
  induction k generalizing s with
  | zero => rfl
  | succ k ih =>
    rw [ticks, ih, timerStep]
    split_ifs <;> rfl

theorem settle_free (k : Nat) (s : State) (h : s.eng.pending = none) : settle k s = ticks k s := by
  have hp : (ticks k s).eng.pending = none := by rw [ticks_frame]; exact h
  simp [settle, engineStep, hp]

end Sys2Proof.Machine
end

