-- ==== Sys2Proof/Laws/Sequencer.lean ====
section
/-! SUPPORT. What a line of the sequencer does to the engine and to the records of the run: at most one register
access (00_scope.md R12; 43_bus_primitives.md R241). -/

namespace Sys2Proof.Machine

/-- The register accesses a line of the sequencer makes, by the state that results. -/
inductive SequencerAccess (s : State) : State → Prop where
  | none : SequencerAccess s s
  | draw : SequencerAccess s s.drawn
  | ctrl (v : Byte) : SequencerAccess s (writeCtrl v s)
  | data (v : Byte) : SequencerAccess s (writeData v s)
  | bitrate (v : Byte) : SequencerAccess s (writeBitrate v s)
  | status (v : Byte) : SequencerAccess s (writeStatus v s)

/-- The fields of the state that only register accesses, completions and reset change. -/
def engineView (s : State) : Eng × List Event × List FaultRecord × Args × Byte :=
  (s.eng, s.events, s.faults, s.args, s.readData)

/-- A line makes at most one register access; what else it does leaves the engine, the histories, the arguments
and the port. -/
theorem seqLine_access (checks : Bool) (s : State) :
    ∃ u, SequencerAccess s u ∧ engineView (seqLine checks s) = engineView u := by
  unfold seqLine
  cases s.seq.pos with
  | start l =>
    cases l <;> simp only [startCore] <;> (try split_ifs) <;>
      first | exact ⟨_, .none, rfl⟩ | exact ⟨_, .ctrl _, rfl⟩ | exact ⟨_, .data _, rfl⟩
  | writeByte l =>
    cases l <;> simp only [writeByteCore] <;> (try split_ifs) <;>
      first | exact ⟨_, .none, rfl⟩ | exact ⟨_, .ctrl _, rfl⟩ | exact ⟨_, .data _, rfl⟩
  | readByte l =>
    cases l
    case data =>
      rcases readDataReg_state s with h | h
      · exact ⟨_, .none, by simp only [readByteCore, runCall, fetchData, engineView, State.goto, h]⟩
      · exact ⟨_, .draw, by simp only [readByteCore, runCall, fetchData, engineView, State.goto, h]⟩
    all_goals (simp only [readByteCore]; (try split_ifs) <;> exact ⟨_, .none, rfl⟩)
  | write l =>
    cases l with
    | start l =>
      cases l <;> simp only [writeOpLine, startCore] <;> (try split_ifs) <;>
        first | exact ⟨_, .none, rfl⟩ | exact ⟨_, .ctrl _, rfl⟩ | exact ⟨_, .data _, rfl⟩
    | byte l =>
      cases l <;> simp only [writeOpLine, writeByteCore] <;> (try split_ifs) <;>
        first | exact ⟨_, .none, rfl⟩ | exact ⟨_, .ctrl _, rfl⟩ | exact ⟨_, .data _, rfl⟩
    | _ =>
      simp only [writeOpLine, closeFailed, closeOk]
      (try split_ifs) <;> first | exact ⟨_, .none, rfl⟩ | exact ⟨_, .ctrl _, rfl⟩
  | read l =>
    cases l with
    | start l =>
      cases l <;> simp only [readOpLine, startCore] <;> (try split_ifs) <;>
        first | exact ⟨_, .none, rfl⟩ | exact ⟨_, .ctrl _, rfl⟩ | exact ⟨_, .data _, rfl⟩
    | poll l =>
      cases l
      case data =>
        rcases readDataReg_state s with h | h
        · exact ⟨_, .none, by simp only [readOpLine, readByteCore, runCall, fetchData, engineView, State.goto, h]⟩
        · exact ⟨_, .draw, by simp only [readOpLine, readByteCore, runCall, fetchData, engineView, State.goto, h]⟩
      all_goals (simp only [readOpLine, readByteCore]; (try split_ifs) <;> exact ⟨_, .none, rfl⟩)
    | _ =>
      simp only [readOpLine, closeFailed, closeOk]
      (try split_ifs) <;> first | exact ⟨_, .none, rfl⟩ | exact ⟨_, .ctrl _, rfl⟩
  | readByteEnd => simp only [readByteEndLine]; split_ifs <;> exact ⟨_, .none, rfl⟩
  | _ =>
    first
    | exact ⟨_, .none, rfl⟩
    | exact ⟨_, .ctrl _, rfl⟩
    | exact ⟨_, .bitrate _, rfl⟩
    | exact ⟨_, .status _, rfl⟩
    | (simp only; split_ifs <;> exact ⟨_, .none, rfl⟩)

/-- The same of a step of the sequencer, which does nothing while no operation runs. -/
theorem sequencerStep_access (checks : Bool) (s : State) :
    ∃ u, SequencerAccess s u ∧ engineView (sequencerStep checks s) = engineView u := by
  unfold sequencerStep
  split_ifs
  · exact seqLine_access checks s
  · exact ⟨_, .none, rfl⟩

end Sys2Proof.Machine
end

