-- ==== Sys2Proof/Tests/Slice0.lean ====
section
/-! SUPPORT. Tests: ill-formed terms refused, words decoded, one step at a time against the spec's vectors, and for
every statement with hypotheses a state and operands that meet them. -/

open Sys2Proof Sys2Proof.Machine

namespace Sys2Proof.Tests

/-! ### Ill-formed terms (30_encoding.md R113) -/

theorem test_ill_formed_opReservedHi80 : ¬ Instr.WellFormed (.opReservedHi80 0x7F#8) := by decide

theorem test_ill_formed_opReservedHi40 : ¬ Instr.WellFormed (.opReservedHi40 0x80#8) := by decide

theorem test_ill_formed_opReservedHi20 : ¬ Instr.WellFormed (.opReservedHi20 0x1F#8) := by decide

theorem test_ill_formed_opReservedOpc0 : ¬ Instr.WellFormed (.opReservedOpc0 0x01#8) := by decide

theorem test_ill_formed_opReservedOpcAb : ¬ Instr.WellFormed (.opReservedOpcAb 0x0C#8) := by decide

theorem test_ill_formed_opReservedOpcCf : ¬ Instr.WellFormed (.opReservedOpcCf 0x0B#8) := by decide

theorem test_ill_formed_opReservedR12 : ¬ Instr.WellFormed (.opReservedR12 0x11#8) := by decide

theorem test_ill_formed_opReservedR14 : ¬ Instr.WellFormed (.opReservedR14 0x16#8) := by decide

/-! ### Words, bit by bit: WE, OFF, D (30_encoding.md R100) -/

/-- Reads of offsets 0x00 to 0x0F; D is ignored (10_state.md R23). -/
theorem test_decode_reads_low :
    decode 0b0_00000_00000000#14 = .rdCtrl ∧
      decode 0b0_00001_11111111#14 = .rdStatus ∧
      decode 0b0_00010_00000000#14 = .rdData ∧
      decode 0b0_00011_11111111#14 = .rdBitrate ∧
      decode 0b0_00100_00000000#14 = .rdTmrCtl ∧
      decode 0b0_00101_11111111#14 = .rdTmrCntL ∧
      decode 0b0_00110_00000000#14 = .rdTmrCntH ∧
      decode 0b0_00111_11111111#14 = .rdRsv07 ∧
      decode 0b0_01000_00000000#14 = .rdOp ∧
      decode 0b0_01001_11111111#14 = .rdSeqStat ∧
      decode 0b0_01010_00000000#14 = .rdArgA ∧
      decode 0b0_01011_11111111#14 = .rdArgB ∧
      decode 0b0_01100_00000000#14 = .rdArgM ∧
      decode 0b0_01101_11111111#14 = .rdResult ∧
      decode 0b0_01110_00000000#14 = .rdArgNL ∧
      decode 0b0_01111_11111111#14 = .rdArgNH := by
  decide

/-- Reads of offsets 0x10 to 0x1F. -/
theorem test_decode_reads_high :
    decode 0b0_10000_10100101#14 = .rdArgPL ∧
      decode 0b0_10001_10100101#14 = .rdArgPH ∧
      decode 0b0_10010_00000000#14 = .rdCfgTicksL ∧
      decode 0b0_10011_10100101#14 = .rdCfgTicksH ∧
      decode 0b0_10100_10100101#14 = .rdCfgRetries ∧
      decode 0b0_10101_00000000#14 = .rdRsv15 ∧
      decode 0b0_10110_10100101#14 = .rdRsv16 ∧
      decode 0b0_10111_10100101#14 = .rdRsv17 ∧
      decode 0b0_11000_00000000#14 = .rdRsv18 ∧
      decode 0b0_11001_10100101#14 = .rdRsv19 ∧
      decode 0b0_11010_10100101#14 = .rdRsv1A ∧
      decode 0b0_11011_00000000#14 = .rdRsv1B ∧
      decode 0b0_11100_10100101#14 = .rdRsv1C ∧
      decode 0b0_11101_10100101#14 = .rdRsv1D ∧
      decode 0b0_11110_00000000#14 = .rdRsv1E ∧
      decode 0b0_11111_10100101#14 = .rdRsv1F := by
  decide

/-- Writes of offsets 0x01 to 0x0F but OP. -/
theorem test_decode_writes_low :
    decode 0b1_00001_10000000#14 = .wrStatus 0x80#8 ∧
      decode 0b1_00010_00000001#14 = .wrData 0x01#8 ∧
      decode 0b1_00011_11111111#14 = .wrBitrate 0xFF#8 ∧
      decode 0b1_00100_00000000#14 = .wrTmrCtl 0x00#8 ∧
      decode 0b1_00101_01111111#14 = .wrRoTmrCntL 0x7F#8 ∧
      decode 0b1_00110_01010010#14 = .wrRoTmrCntH 0x52#8 ∧
      decode 0b1_00111_10000000#14 = .wrRsv07 0x80#8 ∧
      decode 0b1_01001_11111111#14 = .wrRoSeqStat 0xFF#8 ∧
      decode 0b1_01010_00000000#14 = .wrArgA 0x00#8 ∧
      decode 0b1_01011_01111111#14 = .wrArgB 0x7F#8 ∧
      decode 0b1_01100_01010010#14 = .wrArgM 0x52#8 ∧
      decode 0b1_01101_10000000#14 = .wrRoResult 0x80#8 ∧
      decode 0b1_01110_00000001#14 = .wrArgNL 0x01#8 ∧
      decode 0b1_01111_11111111#14 = .wrArgNH 0xFF#8 := by
  decide

/-- Writes of offsets 0x10 to 0x1F. -/
theorem test_decode_writes_high :
    decode 0b1_10000_00000000#14 = .wrArgPL 0x00#8 ∧
      decode 0b1_10001_01111111#14 = .wrArgPH 0x7F#8 ∧
      decode 0b1_10010_01010010#14 = .wrRoCfgTicksL 0x52#8 ∧
      decode 0b1_10011_10000000#14 = .wrRoCfgTicksH 0x80#8 ∧
      decode 0b1_10100_00000001#14 = .wrRoCfgRetries 0x01#8 ∧
      decode 0b1_10101_11111111#14 = .wrRsv15 0xFF#8 ∧
      decode 0b1_10110_00000000#14 = .wrRsv16 0x00#8 ∧
      decode 0b1_10111_01111111#14 = .wrRsv17 0x7F#8 ∧
      decode 0b1_11000_01010010#14 = .wrRsv18 0x52#8 ∧
      decode 0b1_11001_10000000#14 = .wrRsv19 0x80#8 ∧
      decode 0b1_11010_00000001#14 = .wrRsv1A 0x01#8 ∧
      decode 0b1_11011_11111111#14 = .wrRsv1B 0xFF#8 ∧
      decode 0b1_11100_00000000#14 = .wrRsv1C 0x00#8 ∧
      decode 0b1_11101_01111111#14 = .wrRsv1D 0x7F#8 ∧
      decode 0b1_11110_01010010#14 = .wrRsv1E 0x52#8 ∧
      decode 0b1_11111_10000000#14 = .wrRsv1F 0x80#8 := by
  decide

/-- CTRL bytes of every class: bits 7 to 2 are INT, EA, STA, STO, SA, EN (30_encoding.md R104, R105). -/
theorem test_decode_ctrl :
    decode 0b1_00000_00000001#14 = .wrCtrlReservedLow1 false false false false false false ∧
      decode 0b1_00000_10100101#14 = .wrCtrlReservedLow1 true false true false false true ∧
      decode 0b1_00000_01001010#14 = .wrCtrlReservedLow2 false true false false true false ∧
      decode 0b1_00000_10010111#14 = .wrCtrlReservedLow3 true false false true false true ∧
      decode 0b1_00000_00000000#14 = .wrCtrlDisable false false false false false ∧
      decode 0b1_00000_11001000#14 = .wrCtrlDisable true true false false true ∧
      decode 0b1_00000_00100100#14 = .wrCtrlLatch false true false false ∧
      decode 0b1_00000_10000100#14 = .wrCtrlTransfer false false ∧
      decode 0b1_00000_11000100#14 = .wrCtrlTransfer true false ∧
      decode 0b1_00000_10001100#14 = .wrCtrlTransfer false true ∧
      decode 0b1_00000_10010100#14 = .wrCtrlStop false false ∧
      decode 0b1_00000_11011100#14 = .wrCtrlStop true true ∧
      decode 0b1_00000_10100100#14 = .wrCtrlStart false false ∧
      decode 0b1_00000_11100100#14 = .wrCtrlStart true false ∧
      decode 0b1_00000_10110100#14 = .wrCtrlReservedStasto false false ∧
      decode 0b1_00000_10111100#14 = .wrCtrlReservedStasto false true := by
  decide

/-- Operation bytes (30_encoding.md R112). -/
theorem test_decode_op :
    decode 0b1_01000_00000001#14 = .opInit ∧
      decode 0b1_01000_00000010#14 = .opStart ∧
      decode 0b1_01000_00000011#14 = .opStop ∧
      decode 0b1_01000_00000100#14 = .opRestart ∧
      decode 0b1_01000_00000101#14 = .opWriteByte ∧
      decode 0b1_01000_00000110#14 = .opReadByte ∧
      decode 0b1_01000_00000111#14 = .opWrite ∧
      decode 0b1_01000_00010111#14 = .opWriteR ∧
      decode 0b1_01000_00001000#14 = .opRead ∧
      decode 0b1_01000_00011000#14 = .opReadR ∧
      decode 0b1_01000_00001001#14 = .opDelay := by
  decide

/-- Reserved operation bytes, at the ends of each pattern (30_encoding.md R113). -/
theorem test_decode_op_reserved :
    decode 0b1_01000_00010001#14 = .opReservedR11 ∧
      decode 0b1_01000_00010110#14 = .opReservedR16 ∧
      decode 0b1_01000_00011001#14 = .opReservedR19 ∧
      decode 0b1_01000_10000000#14 = .opReservedHi80 0x80#8 ∧
      decode 0b1_01000_11111111#14 = .opReservedHi80 0xFF#8 ∧
      decode 0b1_01000_01000000#14 = .opReservedHi40 0x40#8 ∧
      decode 0b1_01000_01111111#14 = .opReservedHi40 0x7F#8 ∧
      decode 0b1_01000_00100000#14 = .opReservedHi20 0x20#8 ∧
      decode 0b1_01000_00111111#14 = .opReservedHi20 0x3F#8 ∧
      decode 0b1_01000_00000000#14 = .opReservedOpc0 0x00#8 ∧
      decode 0b1_01000_00010000#14 = .opReservedOpc0 0x10#8 ∧
      decode 0b1_01000_00001010#14 = .opReservedOpcAb 0x0A#8 ∧
      decode 0b1_01000_00011011#14 = .opReservedOpcAb 0x1B#8 ∧
      decode 0b1_01000_00001100#14 = .opReservedOpcCf 0x0C#8 ∧
      decode 0b1_01000_00011111#14 = .opReservedOpcCf 0x1F#8 ∧
      decode 0b1_01000_00010010#14 = .opReservedR12 0x12#8 ∧
      decode 0b1_01000_00010011#14 = .opReservedR12 0x13#8 ∧
      decode 0b1_01000_00010100#14 = .opReservedR14 0x14#8 ∧
      decode 0b1_01000_00010101#14 = .opReservedR14 0x15#8 := by
  decide

/-- The words of 95_test_vectors.md 2.1, computed there as WE * 8192 + OFF * 256 + D. -/
theorem test_encode_vectors :
    encode .rdCtrl = 0x0000#14 ∧ encode (.wrCtrlStart false false) = 0x20A4#14 ∧ encode (.wrData 0x52#8) = 0x2252#14 ∧
      encode .rdRsv1F = 0x1F00#14 ∧ encode .opReadR = 0x2818#14 := by
  decide

/-- A number with a bit above bit 13 is no access word, and is refused by name. -/
theorem test_decode_refuses_wide :
    decodeNat 0x4000 = .error .widerThanAccessWord ∧ decodeTableWord 14 0x4000 = none ∧
      decodeTableWord 14 0x3FFF = some (.wrRsv1F 0xFF#8) := by
  exact ⟨rfl, rfl, rfl⟩

/-! ### The rows of the opcode table are apart (30_encoding.md R101) -/

/-- One write byte of each CTRL and OP row. -/
def ctrlSamples : List Byte := [0x01, 0x02, 0x03, 0x00, 0x04, 0x84, 0x94, 0xA4, 0xB4]

def opSamples : List Byte :=
  [0x01, 0x02, 0x03, 0x04, 0x05, 0x06, 0x07, 0x17, 0x08, 0x18, 0x09] ++
    [0x80, 0x40, 0x20, 0x00, 0x0A, 0x0C, 0x11, 0x12, 0x14, 0x16, 0x19]

/-- The rows, one for each sample word. -/
def sampleRows : List Row :=
  ((List.range 32).map fun n => (decodeRead (BitVec.ofNat 5 n)).row) ++
    (((List.range 32).filter fun n => n != 0 && n != 8).map fun n => (decodeWrite (BitVec.ofNat 5 n) 0x00#8).row) ++
      (ctrlSamples.map fun v => (decodeCtrl v).row) ++ (opSamples.map fun v => (decodeOp v).row)

theorem test_rows_are_93 : sampleRows.length = 93 := by decide

theorem test_rows_apart : sampleRows.Pairwise (fun r q => r.apart q = true) := by decide +kernel

/-! ### One access at a time, against 95_test_vectors.md 2.2 to 2.6 -/

/-- The state after an access. -/
def after (i : Instr) (s : State) : State :=
  match exec i s with
  | .next t => t
  | .fault _ => s
  | .refused _ => s

/-- The reset state with another engine. -/
def withEng (f : Eng → Eng) : State := { State.reset with eng := f Eng.reset }

/-- The engine in a phase. -/
def inPhase (p : Phase) : State := withEng fun e => { e with phase := p }

/-- The engine with a command pending. -/
def pendingIn (p : Phase) (c : Cmd) : State := withEng fun e => { e with phase := p, pending := some c }

/-- The reset state with answers of the environment given. -/
def answering (s : State) (xs : List StartAnswer) (ys : List TxAnswer) (zs : List RxAnswer) : State :=
  { s with env := { s.env with starts := xs, txs := ys, rxs := zs } }

/-- An operation at a line. -/
def atLine (s : State) (op : BitVec 4) (p : SeqPos) : State :=
  { s with seq := { s.seq with busy := true, op := op, pos := p } }

/-- The agent that moves next. -/
def turning (t : Turn) (s : State) : State := { s with env := { s.env with turns := [t] } }

theorem test_rd_status :
    (after .rdStatus State.reset).readData = 0xF8#8 ∧
      (after .rdStatus (withEng fun e => { e with code := 0b00011#5, err := true, ps := 2#2 })).readData = 0x1E#8 := by
  decide

theorem test_wr_status :
    (after (.wrStatus 0x03#8) (withEng fun e => { e with err := true })).eng.err = true ∧
      statusValue (after (.wrStatus 0xFC#8) (withEng fun e => { e with err := true, ps := 3#2 })) = 0xF8#8 := by
  decide

theorem test_rd_tmr_cnt :
    let s := after .rdTmrCntL { State.reset with tmr := { Tmr.reset with cnt := 0x1234#16 } }
    s.readData = 0x34#8 ∧
      (after .rdTmrCntH { s with tmr := { s.tmr with cnt := 0x1300#16 } }).readData = 0x12#8 := by
  decide

theorem test_wr_tmr_ctl :
    (after (.wrTmrCtl 0x03#8) { State.reset with tmr := { Tmr.reset with cnt := 9#16 } }).tmr.cnt = 0#16 ∧
      tmrCtlValue (after (.wrTmrCtl 0xFE#8) State.reset) = 0x00#8 := by
  decide

theorem test_tick_wraps :
    (timerStep { State.reset with tmr := { Tmr.reset with cnt := 0xFFFF#16, run := true, target := 5#16 } }).tmr =
      { Tmr.reset with cnt := 0#16, run := true, target := 5#16 } := by
  decide

theorem test_wr_arg_n :
    (after (.wrArgNH 0x01#8) { State.reset with args := ⟨0#8, 0#8, 0#8, 0x002C#16, 0#16⟩ }).args.n = 300#16 ∧
      (after (.wrArgPL 0x10#8) { State.reset with args := ⟨0#8, 0#8, 0#8, 0#16, 0x20FF#16⟩ }).args.p = 0x2010#16 := by
  decide

theorem test_wr_ctrl_disable :
    ctrlValue (after (decode 0x20C8#14) State.reset) = 0x48#8 ∧
      (after (decode 0x2000#14) (inPhase .mt)).events = [.release] := by
  decide

theorem test_wr_ctrl_latch :
    ctrlValue (after (decode 0x207C#14) State.reset) = 0x7C#8 ∧
      ctrlValue (after (decode 0x2024#14) (withEng fun e => { e with ctrl := { e.ctrl with int := true } })) = 0xA4#8 := by
  decide

theorem test_wr_ctrl_transfer_error :
    ctrlValue (after (decode 0x2084#14) State.reset) = 0x84#8 ∧
      statusCode (after (decode 0x20CC#14) (inPhase .mrHold)) = 0xF0#8 := by
  decide

theorem test_wr_ctrl_transfer_receives :
    (after (decode 0x208C#14) (inPhase .mr)).eng.pending = some (.dataRx false) ∧
      (after (decode 0x20CC#14) (inPhase .mr)).eng.pending = some (.dataRx true) := by
  decide

theorem test_wr_ctrl_stop :
    ctrlValue (after (decode 0x20D4#14) State.reset) = 0x44#8 ∧
      (after (decode 0x2094#14) (inPhase .mt)).events = [.stop] := by
  decide

theorem test_wr_ctrl_stop_aborts :
    (after (decode 0x2094#14) (pendingIn .idle (.start .s))).events = [.abort (.start .s), .stop] ∧
      (after (decode 0x2094#14) (pendingIn .mr (.dataRx true))).eng.data = .unspecified := by
  decide

/-- A STOP is a launch: after a BITRATE write it reads the rate (30_encoding.md R106, 42_configuration.md R202). -/
theorem test_wr_ctrl_stop_reads_the_rate :
    (after (decode 0x2094#14) (after (.wrBitrate 8#8) State.reset)).eng.divisor = 32 ∧
      (after (decode 0x2094#14) (withEng fun e => { e with bitrate := 72#8, pending := some (.start .s) })).eng.divisor =
        160 := by
  decide

theorem test_wr_ctrl_start :
    ctrlValue (after (decode 0x20AC#14) State.reset) = 0x2C#8 ∧
      (after (decode 0x20A4#14) (inPhase .mrHold)).eng.pending = some (.start .sr) := by
  decide

theorem test_wr_ctrl_reserved :
    (after (decode 0x20B4#14) (pendingIn .mt (.dataTx 0x81#8))).faults = [⟨.engineBusy, 0x00#5, 0xB4#8⟩] ∧
      (after (decode 0x2003#14) (pendingIn .mt (.dataTx 0x81#8))).faults = [⟨.ctrlReserved, 0x00#5, 0x03#8⟩] := by
  decide

theorem test_start_completes :
    let s := engineStep (answering (pendingIn .mt (.start .sr)) [.done] [] [])
    s.events = [.started .sr] ∧ statusCode s = 0x10#8 ∧ s.eng.phase = .addr := by
  decide

theorem test_address_completes :
    let s := engineStep (answering (pendingIn .addr (.addrTx 0x53#8)) [] [.nack] [])
    s.events = [.addr 0x53#8 .nack] ∧ statusCode s = 0x48#8 ∧ s.eng.phase = .mrHold := by
  decide

/-- A byte sent from an unspecified DATA is DATA's value afterwards (44_byte_transfer.md R272). -/
theorem test_sent_byte_stays_in_data :
    (engineStep (answering (pendingIn .mt (.dataTx 0x52#8)) [] [.nack] [])).eng.data = .holds 0x52#8 := by
  decide

theorem test_receive_completes :
    let s := engineStep (answering (pendingIn .mr (.dataRx true)) [] [] [.byte 0x3C#8])
    s.events = [.rx 0x3C#8 .ack] ∧ statusCode s = 0x50#8 ∧ (after .rdData s).readData = 0x3C#8 := by
  decide

theorem test_receive_lost :
    let s := engineStep (answering (pendingIn .mr (.dataRx true)) [] [] [.arbLost])
    s.events = [.rxLost true] ∧ statusCode s = 0x38#8 ∧ s.eng.data = .unspecified := by
  decide

theorem test_init_normalises_the_prescaler :
    (sequencerStep true
      { atLine State.reset 0x1#4 .initStatus with
        seq := { (atLine State.reset 0x1#4 .initStatus).seq with b := 0x07#8 } }).eng.ps = 3#2 := by
  decide

theorem test_op_start_refused_command :
    (sequencerStep true (atLine (pendingIn .idle (.start .s)) 0x2#4 (.start .command))).faults =
      [⟨.engineBusy, 0x00#5, 0xA4#8⟩] := by
  decide

theorem test_restart_keeps_int :
    ctrlValue
        (sequencerStep true
          (atLine (withEng fun e => { e with phase := .mt, ctrl := { e.ctrl with int := true } }) 0x4#4 .restart)) =
      0xA4#8 := by
  decide

theorem test_seq_stat_no_ack :
    (after .rdSeqStat { State.reset with seq := { Seq.reset with outcome := .noAck } }).readData = 0x04#8 := by
  decide

/-- 20_memory.md R76, R77: the byte at the top of BUF, and the one after it. -/
theorem test_buf_wraps :
    let s := (State.reset.memWrite 0xFFFF#16 0x01#8).memWrite (bufAddress 0xFFFF#16 1#16) 0x02#8
    s.memRead 0x0000#16 = 0x02#8 ∧ s.memRead 0xFFFF#16 = 0x01#8 ∧
      (s.memWrite 0x0000#16 0x00#8).buf = [(0xFFFF, 0x01#8)] := by
  decide

/-- `wr ARG_A, 0x52` as the first access after reset (95_test_vectors.md 2.1). -/
theorem test_fetch_word :
    ∃ t, step (State.reset.withFetchWord 14 0x2A52) = .next t ∧ t.args.a = 0x52#8 ∧ t.env = Env.reset :=
  ⟨_, rfl, by decide, by decide⟩

/-! ### Witnesses: for every statement with hypotheses, a state and operands that meet them, clause by clause -/

theorem witness_DecodeEncodeReturnsTheInstruction :
    Instr.WellFormed (.opReservedHi80 0xFF#8) ∧ Instr.WellFormed (.opReservedR14 0x15#8) ∧
      Instr.WellFormed (.wrRsv1F 0xFF#8) := by
  decide

theorem witness_EveryAccessWordSelectsOneRow :
    (Instr.row (.wrRsv1F 0x00#8)).admits 0x3FFF#14 = true ∧ (Instr.row .rdCtrl).admits 0x00FF#14 = true := by
  decide

theorem witness_StepMovesTheAgentWhoseTurnItIs :
    ({ (turning .host State.reset) with env := { Env.reset with turns := [.host], accesses := [0x3FFF#14] } } :
        State).env = ⟨[.host], [0x3FFF#14], [], [], [], 0⟩ ∧
      (turning .sequencer State.reset).env.turns = [.sequencer] ∧ (turning .engine State.reset).env.turns = [.engine] ∧
        (turning .timer State.reset).env.turns = [.timer] ∧ (turning .reset State.reset).env.turns = [.reset] ∧
          (turning (.bufWrite 0xFFFF#16 0xFF#8) State.reset).env.turns = [.bufWrite 0xFFFF#16 0xFF#8] := by
  decide

theorem witness_DataAndResultReads_held :
    (withEng fun e => { e with data := .holds 0xFF#8 }).eng.pending = none ∧
      (withEng fun e => { e with data := .holds 0xFF#8 }).eng.data = .holds 0xFF#8 ∧
        ({ State.reset with result := .holds 0xFF#8 } : State).result = .holds 0xFF#8 := by
  decide

theorem witness_DataAndResultReads_drawn :
    (pendingIn .mr (.dataRx true)).eng.pending ≠ none ∧ State.reset.eng.data = .unspecified ∧
      State.reset.result = .unspecified := by
  decide

theorem witness_TimingSourceReadsGiveOneSnapshot :
    ∃ s t u v : State, s.tmr.cnt = 0xFFFF#16 ∧ exec .rdTmrCntL s = .next t ∧ u.tmr.hlatch = t.tmr.hlatch ∧
      u.tmr.cnt = 0#16 ∧ exec .rdTmrCntH u = .next v :=
  ⟨{ State.reset with tmr := { Tmr.reset with cnt := 0xFFFF#16 } }, _,
    { State.reset with tmr := { Tmr.reset with hlatch := 0xFF#8 } }, _, rfl, rfl, rfl, rfl, rfl⟩

theorem witness_ReadsHaveNoSideEffectButTheLatch :
    AccessWord.we 0x1FFF#14 = false ∧ AccessWord.off 0x1FFF#14 ≠ 0x05#5 ∧ AccessWord.we 0x05FF#14 = false ∧
      AccessWord.off 0x05FF#14 = 0x05#5 := by
  decide

theorem witness_HostWriteWhileBusyIsRefused :
    AccessWord.we 0x3FFF#14 = true ∧ AccessWord.we 0x2000#14 = true ∧
      (atLine State.reset 0x3#4 .stop).seq.busy = true := by
  decide

/-- For ArgumentWritesStore, TimerControlWriteRunsAndClears, ReadOnlyAndReservedWritesAreIgnored,
ReservedCtrlBytesAreRefused, OperationWritesLatchAndStart and ReservedOpBytesAreRefused, whose operands are free, and
for the accepting clauses of StatusWriteSetsPrescalerAndClearsError, DataAndBitrateWritesStore,
DisableReleasesTheBus, LatchStoresTheFields, StopReleasesTheBus and StartLaunchesByPhase. -/
theorem witness_writes_accepted :
    State.reset.seq.busy = false ∧ State.reset.eng.pending = none := by
  decide

/-- For CtrlWriteWhileCommandPendingIsRefused and the refusing clauses of ReservedCtrlBytesAreRefused,
StatusWriteSetsPrescalerAndClearsError and DataAndBitrateWritesStore. -/
theorem witness_writes_refused :
    (pendingIn .idle (.start .s)).seq.busy = false ∧ (pendingIn .idle (.start .s)).eng.pending ≠ none := by
  decide

theorem witness_TransferActsByPhase :
    (∀ p : Phase, p ∈ [Phase.addr, .mt, .mr, .idle, .mrHold] →
      (inPhase p).seq.busy = false ∧ (inPhase p).eng.pending = none ∧ (inPhase p).eng.phase = p ∧
        (inPhase p).eng.data = .unspecified) ∧
      (withEng fun e => { e with phase := .addr, data := .holds 0xFF#8 }).eng.data = .holds 0xFF#8 ∧
        (withEng fun e => { e with phase := .mt, data := .holds 0x00#8 }).eng.data = .holds 0x00#8 := by
  decide

theorem witness_StopAbortsAPendingCommand :
    (pendingIn .mr (.dataRx false)).seq.busy = false ∧
      (pendingIn .mr (.dataRx false)).eng.pending = some (.dataRx false) ∧
        (pendingIn .mt (.dataTx 0xFF#8)).eng.pending = some (.dataTx 0xFF#8) := by
  decide

theorem witness_NoAccessChangesBuf : ∃ s t : State, exec .opRead s = .next t ∧ s.memRead 0xFFFF#16 = 0xFF#8 :=
  ⟨State.reset.memWrite 0xFFFF#16 0xFF#8, _, rfl, by decide⟩

theorem witness_HostCannotDisturbAnOperation :
    ∃ s t : State, s.seq.busy = true ∧ exec (.wrCtrlStop false false) s = .next t :=
  ⟨atLine State.reset 0x9#4 .delayArm, _, rfl, rfl⟩

theorem witness_StartCompletes :
    ∀ x : StartAnswer, x ∈ [StartAnswer.done, .arbLost, .busError] →
      (answering (pendingIn .idle (.start .s)) [x] [] []).eng.pending = some (.start .s) ∧
        (answering (pendingIn .idle (.start .s)) [x] [] []).startAnswer = x ∧
          (answering (pendingIn .mt (.start .sr)) [x] [] []).eng.pending = some (.start .sr) := by
  decide

theorem witness_AddressByteCompletes :
    ∀ x : TxAnswer, x ∈ [TxAnswer.ack, .nack, .arbLost] →
      (answering (pendingIn .addr (.addrTx 0xFF#8)) [] [x] []).eng.pending = some (.addrTx 0xFF#8) ∧
        (answering (pendingIn .addr (.addrTx 0x00#8)) [] [x] []).eng.pending = some (.addrTx 0x00#8) ∧
          (answering (pendingIn .addr (.addrTx 0xFF#8)) [] [x] []).txAnswer = x ∧
            (0xFF#8).getLsbD 0 = true ∧ (0x00#8).getLsbD 0 = false := by
  decide

/-- For AddressByteCompletes and DataByteCompletes: a coherent engine that sends what DATA holds. -/
theorem witness_sending_engines_are_coherent :
    (∃ s : State, s.eng.pending = some (.addrTx 0xFF#8) ∧ engineOk s = true ∧ s.eng.data = .holds 0xFF#8) ∧
      ∃ s : State, s.eng.pending = some (.dataTx 0x00#8) ∧ engineOk s = true ∧ s.eng.data = .holds 0x00#8 :=
  ⟨⟨withEng fun e => { e with phase := .addr, pending := some (.addrTx 0xFF#8), data := .holds 0xFF#8 }, rfl,
      by decide, rfl⟩,
    withEng fun e => { e with phase := .mt, pending := some (.dataTx 0x00#8), data := .holds 0x00#8 }, rfl,
      by decide, rfl⟩

theorem witness_DataByteCompletes :
    ∀ x : TxAnswer, x ∈ [TxAnswer.ack, .nack, .arbLost] →
      (answering (pendingIn .mt (.dataTx 0xFF#8)) [] [x] []).eng.pending = some (.dataTx 0xFF#8) ∧
        (answering (pendingIn .mt (.dataTx 0xFF#8)) [] [x] []).txAnswer = x := by
  decide

theorem witness_ReceiveCompletes :
    (∀ x : RxAnswer, x ∈ [RxAnswer.byte 0xFF#8, .byte 0x00#8, .arbLost] →
      (answering (pendingIn .mr (.dataRx true)) [] [] [x]).rxAnswer = x) ∧
      (answering (pendingIn .mr (.dataRx true)) [] [] [.arbLost]).eng.pending = some (.dataRx true) ∧
        (answering (pendingIn .mr (.dataRx false)) [] [] [.arbLost]).eng.pending = some (.dataRx false) := by
  decide

theorem witness_PendingCommandIsNeverReplaced :
    ∃ s t : State, s.eng.pending = some (.start .s) ∧ step s = .next t :=
  ⟨turning .sequencer (atLine (pendingIn .idle (.start .s)) 0x2#4 (.start .command)), _, rfl, rfl⟩

theorem witness_TimerTicks :
    State.reset.tmr.run = false ∧
      ({ State.reset with tmr := { Tmr.reset with run := true, cnt := 0xFFFF#16 } } : State).tmr.run = true := by
  decide

theorem witness_DelayOperationArmsWaitsAndEnds :
    (atLine State.reset 0x9#4 .delayArm).seq.busy = true ∧ (atLine State.reset 0x9#4 .delayArm).seq.pos = .delayArm ∧
      (atLine State.reset 0x9#4 .delayDisarm).seq.pos = .delayDisarm ∧
        (atLine State.reset 0x9#4 .delayDisarm).tmr.matched = false ∧
          (atLine (armDelay 0#16 State.reset) 0x9#4 .delayDisarm).tmr.matched = true := by
  decide

theorem witness_InitWritesTheConfiguration :
    (atLine State.reset 0x1#4 .initBitrate).seq.busy = true ∧
      (atLine State.reset 0x1#4 .initBitrate).seq.pos = .initBitrate ∧
        (atLine State.reset 0x1#4 .initBitrate).eng.pending = none ∧
          (atLine (pendingIn .idle (.start .s)) 0x1#4 .initBitrate).eng.pending ≠ none := by
  decide

/-- The last line of `init`, before and at the match. -/
theorem witness_InitWritesTheConfiguration_last :
    (atLine State.reset 0x1#4 .initDisarm).seq.busy = true ∧
      (atLine State.reset 0x1#4 .initDisarm).seq.pos = .initDisarm ∧
        (atLine State.reset 0x1#4 .initDisarm).tmr.matched = false ∧
          (atLine (armDelay 0#16 State.reset) 0x1#4 .initDisarm).seq.pos = .initDisarm ∧
            (atLine (armDelay 0#16 State.reset) 0x1#4 .initDisarm).tmr.matched = true := by
  decide

/-- The state at a line of `init` with all of N and M set. -/
def initAt (p : SeqPos) : State :=
  turning .sequencer
    { State.reset with
      seq := { Seq.reset with busy := true, op := 0x1#4, pos := p, n := 0xFFFF#16, m := 0xFF#8 } }

theorem witness_ConfigurationChangesOnlyByInit :
    (∃ t, step (initAt .initTicks) = .next t ∧ t.cfg ≠ (initAt .initTicks).cfg) ∧
      (∃ t, step (initAt .initRetries) = .next t ∧ t.cfg ≠ (initAt .initRetries).cfg) ∧
        ∃ s t : State, step s = .next t ∧ t.cfg ≠ s.cfg ∧ s.turn = .reset :=
  ⟨⟨_, rfl, by decide⟩, ⟨_, rfl, by decide⟩,
    turning .reset { State.reset with cfg := ⟨0xFFFF#16, 0xFF#8⟩ }, _, rfl, by decide, rfl⟩

theorem witness_StopAndRestartAreOneStep :
    (atLine (inPhase .mt) 0x3#4 .stop).seq.busy = true ∧ (atLine (inPhase .mt) 0x3#4 .stop).seq.pos = .stop ∧
      (atLine (inPhase .mt) 0x3#4 .stop).eng.pending = none ∧
        (atLine (pendingIn .idle (.start .s)) 0x3#4 .stop).eng.pending = some (.start .s) ∧
          (atLine State.reset 0x4#4 .restart).seq.pos = .restart ∧
            (atLine State.reset 0x4#4 .restart).eng.pending = none ∧
              (atLine (pendingIn .idle (.start .s)) 0x4#4 .restart).eng.pending ≠ none := by
  decide

/-- `start`, or the start of `write` or `read`, at its first line, in a phase, with answers given. -/
def startAt (op : BitVec 4) (l : SeqPos) (p : Phase) (xs : List StartAnswer) (ys : List TxAnswer) : State :=
  let s := atLine (inPhase p) op l
  answering { s with seq := { s.seq with a := 0xFF#8 } } xs ys []

theorem witness_StartOperationReturnsByItsAnswers :
    ∀ x : BitVec 4 × SeqPos × Byte,
      x ∈ [(0x2#4, SeqPos.start .command, 0xFF#8), (0x7#4, .write (.start .command), 0xFF#8),
          (0x8#4, .read (.start .command), 0x00#8)] →
        ∀ p : Phase, p ∈ [Phase.idle, .mrHold] → ∀ c : StartAnswer, c ∈ [StartAnswer.done, .busError, .arbLost] →
          ∀ y : TxAnswer, y ∈ [TxAnswer.ack, .nack, .arbLost] →
            let s := startAt x.1 x.2.1 p [c] [y]
            s.seq.busy = true ∧ s.eng.pending = none ∧ s.eng.phase = p ∧ s.env.starts = [c] ∧ s.env.txs = [y] ∧
              (s.seq.pos = .start .command ∧ s.seq.op = 0x2#4 ∧ x.2.2 = s.seq.a ∨
                s.seq.pos = .write (.start .command) ∧ x.2.2 = s.seq.a ∨
                s.seq.pos = .read (.start .command) ∧ x.2.2.toNat = (s.seq.a.toNat + 1) % 256) := by
  decide

/-- `writeByte` at its first line, in a phase, with CFG_TICKS 3, and CFG_RETRIES and answers given. -/
def writeByteAt (p : Phase) (r : Byte) (ys : List TxAnswer) : State :=
  answering { atLine (inPhase p) 0x5#4 (.writeByte .budget) with cfg := ⟨3#16, r⟩ } [] ys []

theorem witness_WriteByteMakesRetriesPlusOneAttempts :
    ∀ r : Byte, r ∈ [0#8, 0xFF#8] → ∀ p : Phase, p ∈ [Phase.mt, .idle, .mrHold] →
      let s := writeByteAt p r (List.replicate (r.toNat + 1) .nack)
      s.seq.busy = true ∧ s.seq.op = 0x5#4 ∧ s.seq.pos = .writeByte .budget ∧ s.eng.pending = none ∧
        s.eng.phase = p ∧ s.cfg.ticks.toNat ≤ 3 ∧
          s.env.txs = List.replicate (s.cfg.retries.toNat + 1) .nack ++ [] := by
  intro r _ p _
  simp [writeByteAt, answering, atLine, inPhase, withEng, Eng.reset]

theorem witness_WriteByteMakesRetriesPlusOneAttempts_lost :
    ∀ j : Nat, j ∈ [0, 5] →
      let s := writeByteAt .mt 5#8 (List.replicate j .nack ++ [.arbLost])
      s.seq.busy = true ∧ s.seq.op = 0x5#4 ∧ s.seq.pos = .writeByte .budget ∧ s.eng.pending = none ∧
        s.eng.phase = .mt ∧ s.cfg.ticks.toNat ≤ 3 ∧ j ≤ s.cfg.retries.toNat ∧
          s.env.txs = List.replicate j .nack ++ .arbLost :: [] := by
  decide

theorem witness_WriteByteStopsAtTheFirstAck :
    ∀ j : Nat, j ∈ [0, 5] →
      let s := writeByteAt .mt 5#8 (List.replicate j .nack ++ [.ack])
      s.seq.busy = true ∧ s.seq.op = 0x5#4 ∧ s.seq.pos = .writeByte .budget ∧ s.eng.pending = none ∧
        s.eng.phase = .mt ∧ s.cfg.ticks.toNat ≤ 3 ∧ j ≤ s.cfg.retries.toNat ∧
          s.env.txs = List.replicate j .nack ++ .ack :: [] := by
  decide

/-- `readByte` at its first line, with CFG_TICKS 3, CFG_RETRIES 2 and a status code. -/
def readByteAt (code : BitVec 5) : State :=
  { atLine (withEng fun e => { e with phase := .mr, code := code, data := .holds 0x7E#8 }) 0x6#4 (.readByte .budget) with
    cfg := ⟨3#16, 2#8⟩ }

/-- The same while a receive is pending, which a byte will complete. -/
def readByteWhileReceiving (ack : Bool) : State :=
  let s := readByteAt 0x1F#5
  answering { s with eng := { s.eng with pending := some (.dataRx ack) } } [] [] [.byte 0xFF#8]

theorem witness_ReadByteReturnsTheReceivedByte :
    ∀ c : BitVec 5, c ∈ [0x0A#5, 0x0B#5] →
      let s := readByteAt c
      s.seq.busy = true ∧ s.seq.op = 0x6#4 ∧ s.seq.pos = .readByte .budget ∧ s.eng.pending = none ∧
        s.eng.data = .holds 0x7E#8 ∧ (s.eng.code = 0x0A#5 ∨ s.eng.code = 0x0B#5) := by
  decide

theorem witness_ReadByteReturnsTheReceivedByte_later :
    ∀ (ack : Bool) (j : Nat), j ∈ [0, 2] →
      let s := readByteWhileReceiving ack
      s.seq.busy = true ∧ s.seq.op = 0x6#4 ∧ s.seq.pos = .readByte .budget ∧ s.eng.pending = some (.dataRx ack) ∧
        s.eng.code ≠ 0x0A#5 ∧ s.eng.code ≠ 0x0B#5 ∧ s.cfg.ticks.toNat ≤ 3 ∧ j ≤ s.cfg.retries.toNat ∧
          s.env.rxs = .byte 0xFF#8 :: [] := by
  decide

theorem witness_ReadByteTimesOutAfterItsBudget :
    let s := readByteAt 0x08#5
    s.seq.busy = true ∧ s.seq.op = 0x6#4 ∧ s.seq.pos = .readByte .budget ∧ s.cfg.ticks.toNat ≤ 3 ∧
      s.eng.code ≠ 0x0A#5 ∧ s.eng.code ≠ 0x0B#5 := by
  decide

/-- `write` at its byte loop, across the top of BUF: each byte after its number of NACKs, with CFG_TICKS 3 and
CFG_RETRIES 2. -/
def writeAt (js : List Nat) : State :=
  let s := atLine (inPhase .mt) 0x7#4 (.write .index)
  answering
    { s with
      seq := { s.seq with n := BitVec.ofNat 16 js.length, p := 0xFFFF#16 }
      cfg := ⟨3#16, 2#8⟩
      buf := [(0, 0x02#8), (0xFFFF, 0x01#8)] }
    [] (js.flatMap fun j => List.replicate j .nack ++ [.ack]) []

theorem witness_WriteSendsItsBufferInOrder :
    (∀ js : List Nat, js ∈ [[], [2, 0]] →
      let s := writeAt js
      s.seq.busy = true ∧ s.seq.pos = .write .index ∧ s.eng.pending = none ∧ s.eng.phase = .mt ∧
        s.cfg.ticks.toNat ≤ 3 ∧ js.length = s.seq.n.toNat ∧ (∀ j ∈ js, j ≤ s.cfg.retries.toNat) ∧
          s.env.txs = js.flatMap (fun j => List.replicate j .nack ++ [.ack]) ++ []) ∧
      (atLine (inPhase .mt) 0x7#4 (.write (.byte .transmit))).seq.pos = .write (.byte .transmit) := by
  decide

/-- `read` at its byte loop, across the top of BUF, with the bytes the peripheral sends. -/
def readAt (vs : List Byte) : State :=
  let s := atLine (inPhase .mr) 0x8#4 (.read .index)
  answering
    { s with
      seq := { s.seq with n := BitVec.ofNat 16 vs.length, p := 0xFFFF#16 }
      buf := [(0, 0x02#8), (0xFFFF, 0x01#8)] }
    [] [] (vs.map .byte)

theorem witness_ReadStoresItsBytesAndNacksTheLast :
    ∀ vs : List Byte, vs ∈ [[0x11#8], [0x11#8, 0x00#8]] →
      vs ≠ [] ∧ vs.length = (readAt vs).seq.n.toNat ∧ (readAt vs).seq.busy = true ∧ (readAt vs).seq.pos = .read .index ∧
        (readAt vs).eng.pending = none ∧ (readAt vs).eng.phase = .mr ∧ Memory.wf (readAt vs).buf = true ∧
          (readAt vs).env.rxs = vs.map RxAnswer.byte ++ [] := by
  decide

/-- A transaction at a line, with `endWithRestart` and the outcome of its last sub-operation. -/
def transactionAt (op : BitVec 4) (p : SeqPos) (r : Bool) (o : TransferOutcome) : State :=
  let s := atLine (inPhase .mt) op p
  { s with seq := { s.seq with r := r, o := o } }

theorem witness_TransactionsEndWithOneClosingCommand :
    (∀ x : BitVec 4 × SeqPos, x ∈ [(0x7#4, SeqPos.write .close), (0x8#4, .read .close)] → ∀ r : Bool,
      let s := transactionAt x.1 x.2 r .ok
      s.seq.busy = true ∧ (s.seq.op = 0x7#4 ∨ s.seq.op = 0x8#4) ∧ s.eng.pending = none ∧
        (s.seq.pos = .write .close ∨ s.seq.pos = .read .close) ∧ s.seq.r = r) ∧
      ∀ x : BitVec 4 × SeqPos,
        x ∈ [(0x7#4, SeqPos.write .checkStart), (0x7#4, .write .checkByte), (0x8#4, .read .checkStart),
            (0x8#4, .read .checkByte)] →
          let s := transactionAt x.1 x.2 false .noAck
          s.seq.busy = true ∧ (s.seq.op = 0x7#4 ∨ s.seq.op = 0x8#4) ∧ s.eng.pending = none ∧ s.seq.o ≠ .ok ∧
            (s.seq.pos = .write .checkStart ∨ s.seq.pos = .write .checkByte ∨ s.seq.pos = .read .checkStart ∨
              s.seq.pos = .read .checkByte) := by
  decide

/-- The same with a receive pending, which a `read` gave up on. -/
theorem witness_TransactionsEndWithOneClosingCommand_pending :
    ∀ x : BitVec 4 × SeqPos × TransferOutcome,
      x ∈ [(0x7#4, SeqPos.write .close, .ok), (0x8#4, .read .close, .ok), (0x7#4, .write .checkStart, .failedStart),
          (0x7#4, .write .checkByte, .noAck), (0x8#4, .read .checkStart, .noAck), (0x8#4, .read .checkByte, .noAck)] →
        ∀ r : Bool,
          let t := transactionAt x.1 x.2.1 r x.2.2
          let s : State := { t with eng := { t.eng with phase := .mr, pending := some (.dataRx true) } }
          s.seq.busy = true ∧ (s.seq.op = 0x7#4 ∨ s.seq.op = 0x8#4) ∧ s.eng.pending = some (.dataRx true) ∧
            s.seq.r = r ∧ s.seq.pos = x.2.1 ∧ s.seq.o = x.2.2 := by
  decide

theorem witness_TransactionsSendTheirAddressAndCheckTheStart :
    (atLine State.reset 0x7#4 (.write (.start .data))).seq.busy = true ∧
      (atLine State.reset 0x7#4 (.write (.start .data))).eng.pending = none ∧
        (atLine State.reset 0x7#4 (.write (.start .data))).seq.pos = .write (.start .data) ∧
          (atLine State.reset 0x8#4 (.read (.start .data))).seq.pos = .read (.start .data) := by
  decide

theorem witness_TransactionsSendTheirAddressAndCheckTheStart_transmit :
    ∀ x : BitVec 4 × SeqPos, x ∈ [(0x7#4, SeqPos.write (.start .transmit)), (0x8#4, .read (.start .transmit))] →
      let s := atLine (withEng fun e => { e with phase := .addr, data := .holds 0xFF#8 }) x.1 x.2
      s.seq.busy = true ∧ s.eng.pending = none ∧ s.seq.pos = x.2 ∧ s.eng.phase = .addr ∧
        s.eng.data = .holds 0xFF#8 := by
  decide

theorem witness_TransactionsSendTheirAddressAndCheckTheStart_check :
    ∀ x : BitVec 4 × SeqPos, x ∈ [(0x7#4, SeqPos.write .checkStart), (0x8#4, .read .checkStart)] →
      ∀ o : TransferOutcome, o ∈ [TransferOutcome.ok, .noAck, .failedStart] →
        let s := transactionAt x.1 x.2 false o
        s.seq.busy = true ∧ s.seq.pos = x.2 ∧ s.seq.op = x.1 ∧ s.seq.o = o := by
  decide

/-- `read` about to store a byte at the top of BUF. -/
def storing : State :=
  let s := atLine (inPhase .mr) 0x8#4 (.read .store)
  turning .sequencer { s with seq := { s.seq with n := 1#16, p := 0xFFFF#16, v := 0xFF#8 } }

theorem witness_BufChangesOnlyAtAReadsStore :
    (∃ t, step storing = .next t ∧ t.memRead 0xFFFF#16 ≠ storing.memRead 0xFFFF#16) ∧
      ∃ s t : State, step s = .next t ∧ s.turn = .bufWrite 0#16 0xFF#8 ∧ t.memRead 0#16 ≠ s.memRead 0#16 :=
  ⟨⟨_, rfl, by decide⟩, turning (.bufWrite 0#16 0xFF#8) State.reset, _, rfl, rfl, by decide⟩

theorem witness_OutcomeChangesOnlyAtTheEnd :
    (∃ s t : State, step s = .next t ∧ t.seq.outcome ≠ s.seq.outcome ∧ s.turn = .sequencer) ∧
      ∃ s t : State, step s = .next t ∧ t.seq.outcome ≠ s.seq.outcome ∧ s.turn = .reset :=
  ⟨⟨turning .sequencer (transactionAt 0x8#4 (.read .checkByte) false .noAck), _, rfl, by decide, rfl⟩,
    turning .reset { State.reset with seq := { Seq.reset with outcome := .noAck } }, _, rfl, by decide, rfl⟩

theorem witness_HistoriesAreNeverShortened :
    ∃ s t : State, step s = .next t ∧ s.events ≠ [] ∧ s.faults ≠ [] :=
  ⟨turning .reset
      { inPhase .mt with events := [.started .s], faults := [⟨.hostWriteBusy, 0x1F#5, 0xFF#8⟩] },
    _, rfl, by decide, by decide⟩

theorem witness_PhaseChangesOnlyAsTheTableSays :
    (∃ s t : State, engineOk s = true ∧ step s = .next t ∧ t.eng.phase = .addr ∧ s.eng.phase ≠ .addr) ∧
      (∃ s t : State, engineOk s = true ∧ step s = .next t ∧ t.eng.phase = .mr ∧ s.eng.phase ≠ .mr) ∧
        (∃ s t : State, engineOk s = true ∧ step s = .next t ∧ t.eng.phase = .mrHold ∧ s.eng.phase = .mr) ∧
          ∃ s t : State, engineOk s = true ∧ step s = .next t ∧ t.eng.phase = .idle ∧ s.eng.phase ≠ .idle :=
  ⟨⟨turning .engine (answering (pendingIn .idle (.start .s)) [.done] [] []), _, by decide, rfl, by decide, by decide⟩,
    ⟨turning .engine (answering (pendingIn .addr (.addrTx 0xFF#8)) [] [.ack] []), _, by decide, rfl, by decide,
      by decide⟩,
    ⟨turning .engine (answering (pendingIn .mr (.dataRx false)) [] [] [.byte 0xFF#8]), _, by decide, rfl, by decide,
      by decide⟩,
    turning .reset (inPhase .mrHold), _, by decide, rfl, by decide, by decide⟩

theorem witness_EngineStaysCoherent :
    ∃ s t : State, engineOk s = true ∧ step s = .next t ∧ s.eng.pending = some (.dataTx 0xFF#8) :=
  ⟨turning .engine (answering (pendingIn .mt (.dataTx 0xFF#8)) [] [.arbLost] []), _, by decide, rfl, rfl⟩

/-- A coherent state in the middle of a `write`: it owns the bus, stands in its loop and waits in a delay. -/
def midWrite : State :=
  let s := atLine (inPhase .mt) 0x7#4 (.write (.byte .disarm))
  turning .timer
    { s with
      seq := { s.seq with n := 0xFFFF#16, i := 0xFFFE#16 }
      tmr := { Tmr.reset with run := true, cnt := 0xFFFE#16, target := 0xFFFF#16 }
      events := [.started .s]
      buf := [(0xFFFF, 0xFF#8)] }

theorem witness_CoherenceIsKeptByEveryStep : midWrite.coherent = true ∧ ∃ t, step midWrite = .next t :=
  ⟨by decide, _, rfl⟩

theorem witness_ResetEventRestoresTheBlock :
    (State.reset.eng.phase = .idle ∧ State.reset.eng.pending = none) ∧ (inPhase .mt).eng.phase ≠ .idle ∧
      (pendingIn .idle (.start .s)).eng.pending ≠ none := by
  decide

end Sys2Proof.Tests
end

section
/-! The move of a step (00_scope.md R11, R12): what a given turn and a given access are taken as, and the step that
follows from them. -/

namespace Sys2Proof.Machine

section Given

variable {s : State} {a : Turn} {ts : List Turn} {w : AccessWord} {ws : List AccessWord}

theorem turn_of_given (h : s.env.turns = a :: ts) : s.turn = a := by
  simp only [State.turn, h]

theorem afterTurn_of_given (h : s.env.turns = a :: ts) :
    s.afterTurn = { s with env := { s.env with turns := ts } } := by
  simp only [State.afterTurn, h]

theorem access_of_given (h : s.env.accesses = w :: ws) : s.access = w := by
  simp only [State.access, h]

theorem afterAccess_of_given (h : s.env.accesses = w :: ws) :
    s.afterAccess = { s with env := { s.env with accesses := ws } } := by
  simp only [State.afterAccess, h]

/-- The host's move; the access is looked up after the turn was taken, which leaves the accesses alone. -/
theorem step_of_host_given (ht : s.env.turns = .host :: ts) (ha : s.env.accesses = w :: ws) :
    step s = exec (decode w) { s with env := { s.env with turns := ts, accesses := ws } } := by
  have ha' : s.afterTurn.env.accesses = w :: ws := by rw [afterTurn_of_given ht]; exact ha
  simp only [step_of_turn, turn_of_given ht]
  rw [access_of_given ha', afterAccess_of_given ha', afterTurn_of_given ht]

end Given

/-- The turn and the access that `withFetchWord` puts first are the ones the step takes away again. -/
theorem step_withFetchWord (s : State) (n w : Nat) :
    step (s.withFetchWord n w) = exec (decode (BitVec.ofNat 14 w)) s :=
  step_of_host_given (s := s.withFetchWord n w) rfl rfl

/-- Settles O5: a clause for the host, one for `withFetchWord`, and one for each agent that needs no access. -/
theorem stepMovesTheAgentWhoseTurnItIs : Obligations.StepMovesTheAgentWhoseTurnItIs := by
  refine ⟨fun _ _ _ _ => step_of_host_given, step_withFetchWord,
    fun s ts => ⟨?sequencer, ?engine, ?timer, ?reset, fun _ _ => ?bufWrite⟩⟩
  all_goals
    intro h
    simp only [step_of_turn, turn_of_given h, afterTurn_of_given h]

end Sys2Proof.Machine
end

section
/-! What the move of each agent can be, and what it leaves of the configuration and of OUTCOME (00_scope.md R11;
10_state.md R51, R58, R59). -/

namespace Sys2Proof.Machine

/-- The agents that can have made a step, each with its move. -/
theorem step_cases {s t : State} (h : step s = .next t) :
    (s.turn = .host ∧ exec (decode s.afterTurn.access) s.afterTurn.afterAccess = .next t) ∨
    (s.turn = .sequencer ∧ t = sequencerStep Config.writeChecksStart s.afterTurn) ∨
    (s.turn = .engine ∧ t = engineStep s.afterTurn) ∨
    (s.turn = .timer ∧ t = timerStep s.afterTurn) ∨
    (s.turn = .reset ∧ t = resetEvent s.afterTurn) ∨
    ∃ a v, s.turn = .bufWrite a v ∧ t = s.afterTurn.memWrite a v := by
  rw [step_of_turn] at h
  cases ht : s.turn <;> simp_all

/-- The configuration and OUTCOME are in `t` what they are in `s`. -/
def KeepsResults (s t : State) : Prop := t.cfg = s.cfg ∧ t.seq.outcome = s.seq.outcome

theorem RegisterWrite.keepsResults {v : Byte} {f : State → State} (h : RegisterWrite v f) (s : State) :
    KeepsResults s (f s) := by
  cases h with
  | ctrl | status | data | bitrate => simp [KeepsResults]
  | tmrCtl | argument | ignored | operation | reserved => exact ⟨rfl, rfl⟩

/-- No access of the host touches the configuration or OUTCOME (40_register_interface.md R174). -/
theorem exec_keepsResults {i : Instr} {s t : State} (h : exec i s = .next t) : KeepsResults s t := by
  rcases exec_cases i s with ⟨-, r, hr, hs⟩ | ⟨-, f, hf, hw⟩
  · obtain rfl : hostRead r = t := Host.Outcome.next.inj (hr.symm.trans h)
    rcases hs with hs | hs | ⟨-, hs⟩ <;> simp [KeepsResults, hostRead, hs]
  · obtain rfl : hostWrite _ _ f s = t := Host.Outcome.next.inj (hw.symm.trans h)
    cases hb : s.seq.busy with
    | true => simp [KeepsResults, hb]
    | false => simpa [hb] using hf.keepsResults s

theorem engineStep_keepsResults (s : State) : KeepsResults s (engineStep s) := by
  rcases engineStep_cases s with ⟨-, h⟩ | ⟨c, -, h⟩
  · simp [KeepsResults, h]
  · obtain ⟨-, -, hcfg, -, hseq, -⟩ := completeCmd_frame c s
    simp [KeepsResults, h, hcfg, hseq]

theorem timerStep_keepsResults (s : State) : KeepsResults s (timerStep s) := by
  unfold timerStep
  split_ifs <;> exact ⟨rfl, rfl⟩

/-- Only the reset input and a line of the sequencer can touch the configuration or OUTCOME. -/
theorem step_keepsResults {s t : State} (h : step s = .next t) :
    KeepsResults s t ∨ s.turn = .reset ∨
      (s.turn = .sequencer ∧ s.seq.busy = true ∧ t = seqLine Config.writeChecksStart s.afterTurn) := by
  rcases step_cases h with ⟨-, h⟩ | ⟨ht, rfl⟩ | ⟨-, rfl⟩ | ⟨-, rfl⟩ | ⟨ht, -⟩ | ⟨a, v, -, rfl⟩
  · exact .inl (by simpa [KeepsResults] using exec_keepsResults h)
  · cases hb : s.seq.busy with
    | true => exact .inr (.inr ⟨ht, rfl, by simp [hb]⟩)
    | false => exact .inl (by simp [KeepsResults, hb])
  · exact .inl (by simpa [KeepsResults] using engineStep_keepsResults s.afterTurn)
  · exact .inl (by simpa [KeepsResults] using timerStep_keepsResults s.afterTurn)
  · exact .inr (.inl ht)
  · exact .inl (by simp [KeepsResults])

end Sys2Proof.Machine
end

section
/-! What a line of the sequencer does to the configuration and to OUTCOME (42_configuration.md R201;
40_register_interface.md R154). -/

namespace Sys2Proof.Machine

/-- The configuration is kept, and OUTCOME too unless the operation is over. -/
structure KeepsResultsOrEnds (s t : State) : Prop where
  cfg : t.cfg = s.cfg
  outcome : t.seq.outcome = s.seq.outcome ∨ t.seq.busy = false

theorem KeepsResults.orEnds {s t : State} (h : KeepsResults s t) : KeepsResultsOrEnds s t := ⟨h.1, .inl h.2⟩

theorem KeepsResults.finish {s t : State} (h : KeepsResults s t) (o : TransferOutcome) :
    KeepsResultsOrEnds s (finish o t) := ⟨h.1, .inr rfl⟩

theorem KeepsResults.keepOutcome {s t : State} (h : KeepsResults s t) (p : SeqPos) (o : TransferOutcome) :
    KeepsResultsOrEnds s (keepOutcome p o t) := ⟨h.1, .inl h.2⟩

/-- Every state that a procedure's line leads to keeps the configuration and OUTCOME. -/
def Flow.KeepsResults {L : Type} (s : State) : Flow L → Prop
  | .wait => True
  | .line _ t => Machine.KeepsResults s t
  | .ret _ t => Machine.KeepsResults s t

theorem startCore_keepsResults (a : Byte) (l : StartLine) (s : State) : (startCore a l s).KeepsResults s := by
  cases l <;> dsimp only [startCore]
  case command | transmit => exact ⟨writeCtrl_cfg _ s, congrArg Seq.outcome (writeCtrl_seq _ s)⟩
  case data => exact ⟨writeData_cfg a s, congrArg Seq.outcome (writeData_seq a s)⟩
  case status | addrStatus =>
    split_ifs
    · exact ⟨rfl, rfl⟩
    · trivial
  case checkStart | checkAddr => split_ifs <;> exact ⟨rfl, rfl⟩
  case returnOk => exact ⟨rfl, rfl⟩

theorem writeByteCore_keepsResults (b : Byte) (l : ByteLine) (s : State) :
    (writeByteCore b l s).KeepsResults s := by
  cases l <;> dsimp only [writeByteCore]
  case data => exact ⟨writeData_cfg b s, congrArg Seq.outcome (writeData_seq b s)⟩
  case transmit => exact ⟨writeCtrl_cfg _ s, congrArg Seq.outcome (writeCtrl_seq _ s)⟩
  case status | disarm =>
    split_ifs
    · exact ⟨rfl, rfl⟩
    · trivial
  case checkAck | checkExhausted => split_ifs <;> exact ⟨rfl, rfl⟩
  case budget | spend | arm => exact ⟨rfl, rfl⟩

theorem readByteCore_keepsResults (l : PollLine) (s : State) : (readByteCore l s).KeepsResults s := by
  cases l <;> dsimp only [readByteCore]
  case data => exact ⟨readDataReg_cfg s, (congrArg Seq.outcome (readDataReg_seq s) :)⟩
  case disarm =>
    split_ifs
    · exact ⟨rfl, rfl⟩
    · trivial
  case poll | checkExhausted => split_ifs <;> exact ⟨rfl, rfl⟩
  case budget | returnOk | spend | arm => exact ⟨rfl, rfl⟩

/-- A call keeps what the procedure keeps, and ends the operation only in the step of the return. -/
theorem runCall_keepsResultsOrEnds {L : Type} {f : Flow L} {s : State} {wrap : L → SeqPos}
    {after : TransferOutcome → State → State} (hf : f.KeepsResults s)
    (ha : ∀ o t, KeepsResults s t → KeepsResultsOrEnds s (after o t)) :
    KeepsResultsOrEnds s (runCall f s wrap after) := by
  cases f with
  | wait => exact ⟨rfl, .inl rfl⟩
  | line l t => exact ⟨hf.1, .inl hf.2⟩
  | ret o t => exact ha o t hf

theorem closeFailed_ends (s : State) : KeepsResultsOrEnds s (closeFailed s) :=
  KeepsResults.finish (by simp [KeepsResults]) _

theorem closeOk_ends (s : State) : KeepsResultsOrEnds s (closeOk s) :=
  KeepsResults.finish (by simp [KeepsResults]) _

theorem writeOpLine_keepsResultsOrEnds (checks : Bool) (l : WriteLine) (s : State) :
    KeepsResultsOrEnds s (writeOpLine checks l s) := by
  cases l with
  | start l => exact runCall_keepsResultsOrEnds (startCore_keepsResults _ l s) fun o _ h => h.keepOutcome _ o
  | byte l => exact runCall_keepsResultsOrEnds (writeByteCore_keepsResults _ l s) fun o _ h => h.keepOutcome _ o
  | checkStart | checkByte =>
    simp only [writeOpLine]
    split_ifs
    · exact closeFailed_ends s
    · exact ⟨rfl, .inl rfl⟩
  | index | fetch | next => exact ⟨rfl, .inl rfl⟩
  | close => exact closeOk_ends s

theorem readOpLine_keepsResultsOrEnds (l : ReadLine) (s : State) : KeepsResultsOrEnds s (readOpLine l s) := by
  cases l with
  | start l => exact runCall_keepsResultsOrEnds (startCore_keepsResults _ l s) fun o _ h => h.keepOutcome _ o
  | poll l => exact runCall_keepsResultsOrEnds (readByteCore_keepsResults l s) fun o _ h => h.keepOutcome _ o
  | checkStart | checkByte =>
    simp only [readOpLine]
    split_ifs
    · exact closeFailed_ends s
    · exact ⟨rfl, .inl rfl⟩
  | arm => exact KeepsResults.orEnds (by simp [readOpLine, KeepsResults])
  | index | store => exact ⟨rfl, .inl rfl⟩
  | next =>
    simp only [readOpLine]
    split_ifs <;> exact ⟨rfl, .inl rfl⟩
  | close => exact closeOk_ends s

/-- Every line but init's two configuration lines keeps the configuration, and OUTCOME unless the operation is
over. -/
theorem seqLine_keepsResultsOrEnds (checks : Bool) (s : State) (hticks : s.seq.pos ≠ .initTicks)
    (hretries : s.seq.pos ≠ .initRetries) : KeepsResultsOrEnds s (seqLine checks s) := by
  unfold seqLine
  cases hp : s.seq.pos with
  | initTicks => exact absurd hp hticks
  | initRetries => exact absurd hp hretries
  | none | initArm | delayArm => exact ⟨rfl, .inl rfl⟩
  | initBitrate | initStatus => exact KeepsResults.orEnds (by simp [KeepsResults])
  | stop | restart => exact ⟨writeCtrl_cfg _ s, .inr rfl⟩
  | initDisarm | delayDisarm =>
    dsimp only
    split_ifs
    · exact ⟨rfl, .inr rfl⟩
    · exact ⟨rfl, .inl rfl⟩
  | start l => exact runCall_keepsResultsOrEnds (startCore_keepsResults _ l s) fun o _ h => h.finish o
  | writeByte l => exact runCall_keepsResultsOrEnds (writeByteCore_keepsResults _ l s) fun o _ h => h.finish o
  | readByte l => exact runCall_keepsResultsOrEnds (readByteCore_keepsResults l s) fun o _ h => h.keepOutcome _ o
  | readByteEnd => exact KeepsResults.finish (by split_ifs <;> exact ⟨rfl, rfl⟩) _
  | write l => exact writeOpLine_keepsResultsOrEnds checks l s
  | read l => exact readOpLine_keepsResultsOrEnds l s

/-- A line changes OUTCOME only where it ends the operation; init's two configuration lines do not. -/
theorem seqLine_outcome (checks : Bool) (s : State) :
    (seqLine checks s).seq.outcome = s.seq.outcome ∨ (seqLine checks s).seq.busy = false := by
  by_cases h : s.seq.pos = .initTicks ∨ s.seq.pos = .initRetries
  · rcases h with h | h <;> exact .inl (by simp [seqLine, h])
  · exact (seqLine_keepsResultsOrEnds checks s (h ∘ .inl) (h ∘ .inr)).outcome

/-- Settles O41: no other agent touches the configuration, and of the sequencer's lines only two do. -/
theorem configurationChangesOnlyByInit : Obligations.ConfigurationChangesOnlyByInit := by
  intro s t h hne
  rcases step_keepsResults h with hkeep | hreset | ⟨hturn, hbusy, rfl⟩
  · exact absurd hkeep.1 hne
  · exact .inl hreset
  · refine .inr ⟨hturn, hbusy, ?_⟩
    by_contra hline
    obtain ⟨hticks, hretries⟩ := not_or.mp hline
    have hcfg := (seqLine_keepsResultsOrEnds Config.writeChecksStart s.afterTurn
      (by simpa using hticks) (by simpa using hretries)).cfg
    exact hne (by simpa using hcfg)

/-- Settles O53: no other agent touches OUTCOME, and a line of the sequencer that does ends the operation. -/
theorem outcomeChangesOnlyAtTheEnd : Obligations.OutcomeChangesOnlyAtTheEnd := by
  intro s t h hne
  rcases step_keepsResults h with hkeep | hreset | ⟨hturn, hbusy, rfl⟩
  · exact absurd hkeep.2 hne
  · exact .inl hreset
  · rcases seqLine_outcome Config.writeChecksStart s.afterTurn with hsame | hover
    · exact absurd (by simpa using hsame) hne
    · exact .inr ⟨hturn, hbusy, hover⟩

end Sys2Proof.Machine
end

section
/-! What a step can do to the engine and to the two histories, said once for all agents (00_scope.md R11;
43_bus_primitives.md R224 to R237). -/

namespace Sys2Proof.Machine

/-- The engine with the bus event history and the fault list. -/
structure EngineRecords where
  eng : Eng
  events : List Event
  faults : List FaultRecord

/-- The engine and the histories of a state. -/
def State.records (s : State) : EngineRecords := ⟨s.eng, s.events, s.faults⟩

/-- The moves of the engine: when each can be made, and what it does to the pending command, to the code and to the
histories. -/
inductive EngineMove (x : EngineRecords) : EngineRecords → Prop where
  /-- Nothing. -/
  | keep : EngineMove x x
  /-- A refused write (60_exceptions.md R344). -/
  | refuse (f : FaultRecord) : EngineMove x ⟨{ x.eng with err := true }, x.events, x.faults ++ [f]⟩
  /-- An accepted write that commands nothing: STATUS, DATA, BITRATE, or a latch. -/
  | store (e : Eng) (free : x.eng.pending = none) (pending : e.pending = none) (phase : e.phase = x.eng.phase)
      (code : e.code = x.eng.code) : EngineMove x ⟨e, x.events, x.faults⟩
  /-- A command error (43_bus_primitives.md R231). -/
  | cmdError (e : Eng) (free : x.eng.pending = none) (pending : e.pending = none) (phase : e.phase = x.eng.phase)
      (code : e.code = 0x1E#5) : EngineMove x ⟨e, x.events, x.faults⟩
  /-- A STOP with nothing pending, or a disable (43_bus_primitives.md R227, R233). -/
  | leave (e : Eng) (ev : Event) (free : x.eng.pending = none) (pending : e.pending = none)
      (phase : e.phase = .idle) (code : e.code = 0x1F#5) (event : ev = .stop ∨ ev = .release) :
      EngineMove x ⟨e, if x.eng.phase = .idle then x.events else x.events ++ [ev], x.faults⟩
  /-- A STOP that aborts the pending command (43_bus_primitives.md R228). -/
  | abort (c : Cmd) (e : Eng) (running : x.eng.pending = some c) (pending : e.pending = none)
      (phase : e.phase = .idle) (code : e.code = 0x1F#5) :
      EngineMove x ⟨e, x.events ++ [.abort c, .stop], x.faults⟩
  /-- A launch (43_bus_primitives.md R224, R225, R230). -/
  | launch (c : Cmd) (e : Eng) (free : x.eng.pending = none) (pending : e.pending = some c)
      (phase : e.phase = x.eng.phase) (code : e.code = 0x1F#5) (int : e.ctrl.int = false)
      (fitsPhase : pendingFits (some c) e.phase = true) (fitsData : dataFits (some c) e.data = true) :
      EngineMove x ⟨e, x.events, x.faults⟩
  /-- A completion, with an event and one of the codes of 30_encoding.md R120 (43_bus_primitives.md R229). -/
  | complete (c : Cmd) (e : Eng) (ev : Event) (running : x.eng.pending = some c) (pending : e.pending = none)
      (code : statusCodes.contains (e.code ++ 0#3) = true) : EngineMove x ⟨e, x.events ++ [ev], x.faults⟩
  /-- The reset event (70_reset_and_hazards.md R370). -/
  | reset :
      EngineMove x ⟨Eng.reset,
        if x.eng.phase ≠ .idle ∨ x.eng.pending.isSome then x.events ++ [.release] else x.events, x.faults⟩

/-- A START fits the phase, being of the kind that the phase asks for (43_bus_primitives.md R225). -/
theorem pendingFits_startKind (s : State) : pendingFits (some (.start (startKind s))) s.eng.phase = true := by
  by_cases h : s.eng.phase = .idle <;> simp [startKind, pendingFits, h]

/-- The byte that a launch reads from DATA fits it (43_bus_primitives.md R230; 10_state.md R63). -/
theorem readDrawn_fits (s u : State) :
    dataFits (some (.addrTx (u.readDrawn s.eng.data).1)) s.eng.data = true ∧
      dataFits (some (.dataTx (u.readDrawn s.eng.data).1)) s.eng.data = true := by
  cases s.eng.data <;> simp [dataFits]

@[simp] theorem readDrawn_eng (d : DrawnByte) (s : State) : (s.readDrawn d).2.eng = s.eng := by cases d <;> rfl
@[simp] theorem readDrawn_events (d : DrawnByte) (s : State) : (s.readDrawn d).2.events = s.events := by
  cases d <;> rfl
@[simp] theorem readDrawn_faults (d : DrawnByte) (s : State) : (s.readDrawn d).2.faults = s.faults := by
  cases d <;> rfl

/-- A launch from a state `u` in which the fields of CTRL and the rate were stored and DATA was read. -/
theorem launch_move {c : Cmd} {s u : State} (free : s.eng.pending = none) (phase : u.eng.phase = s.eng.phase)
    (events : u.events = s.events) (faults : u.faults = s.faults)
    (fitsPhase : pendingFits (some c) s.eng.phase = true) (fitsData : dataFits (some c) u.eng.data = true) :
    EngineMove s.records (launch c u).records := by
  have hrecords : (launch c u).records = ⟨(launch c u).eng, s.events, s.faults⟩ := by
    rw [← events, ← faults]; rfl
  rw [hrecords]
  exact .launch c _ free rfl phase rfl rfl (phase ▸ fitsPhase) fitsData

/-- A TRANSFER with nothing pending launches what the phase asks for, or is a command error
(43_bus_primitives.md R230). -/
theorem launchTransfer_move (v : Byte) (s : State) (free : s.eng.pending = none) :
    EngineMove s.records (launchTransfer v (latchRate (storeCtrl v s))).records := by
  cases hphase : s.eng.phase <;>
    simp only [launchTransfer, latchRate_eng_phase, storeCtrl_eng_phase, latchRate_eng_data, storeCtrl_eng_data,
      hphase]
  case idle | mrHold => exact .cmdError _ free free rfl rfl
  case addr =>
    exact launch_move free (by simp) (by simp) (by simp) (by simp [pendingFits, hphase])
      (by simpa using (readDrawn_fits s _).1)
  case mt =>
    exact launch_move free (by simp) (by simp) (by simp) (by simp [pendingFits, hphase])
      (by simpa using (readDrawn_fits s _).2)
  case mr => exact launch_move free rfl rfl rfl (by simp [pendingFits, hphase]) rfl

/-- A write of CTRL is one move of the engine, by the class of its byte and by whether a command is pending
(40_register_interface.md R142). -/
theorem writeCtrl_move (v : Byte) (s : State) : EngineMove s.records (writeCtrl v s).records := by
  unfold writeCtrl
  cases ctrlClass v <;> cases running : s.eng.pending
  case reservedLow.none | reservedLow.some => exact .refuse _
  case stop.some c =>
    simp only [ctrlStop_pending _ _ _ running, abortStop_eq]
    exact .abort c _ running rfl rfl rfl
  case stop.none =>
    simp only [ctrlStop_free _ _ running, stopCmd, leaveBus_eq]
    exact .leave _ .stop running running rfl rfl (.inl rfl)
  case disable.none =>
    simp only [ctrlDisable, unlessPending_free _ _ _ _ running, disableEngine, leaveBus_eq]
    exact .leave _ .release running running rfl rfl (.inr rfl)
  case latch.none =>
    simp only [ctrlLatch, unlessPending_free _ _ _ _ running]
    exact .store _ running running rfl rfl
  case transfer.none =>
    simp only [ctrlTransfer, unlessPending_free _ _ _ _ running]
    exact launchTransfer_move v s running
  case start.none =>
    simp only [ctrlStart, unlessPending_free _ _ _ _ running]
    exact launch_move running rfl rfl rfl (pendingFits_startKind s) rfl
  case reservedStasto.none =>
    simp only [ctrlReservedStasto, unlessPending_free _ _ _ _ running]
    exact .refuse _
  all_goals
    simp only [ctrlDisable, ctrlLatch, ctrlTransfer, ctrlStart, ctrlReservedStasto,
      unlessPending_pending _ _ _ _ _ running]
    exact .refuse _

/-- A write that is refused while a command is pending, and otherwise stores fields the engine's rules do not move
(60_exceptions.md R345). -/
theorem unlessPending_store_move (off : Offset) (v : Byte) (f : Eng → Eng) (s : State)
    (pending : (f s.eng).pending = s.eng.pending) (phase : (f s.eng).phase = s.eng.phase)
    (code : (f s.eng).code = s.eng.code) :
    EngineMove s.records (unlessPending off v (fun s => { s with eng := f s.eng }) s).records := by
  cases running : s.eng.pending with
  | none =>
    rw [unlessPending_free _ _ _ _ running]
    exact .store _ running (pending.trans running) phase code
  | some c =>
    rw [unlessPending_pending _ _ _ _ c running]
    exact .refuse _

theorem writeData_move (v : Byte) (s : State) : EngineMove s.records (writeData v s).records :=
  unlessPending_store_move offData v (fun e => { e with data := .holds v }) s rfl rfl rfl

theorem writeStatus_move (v : Byte) (s : State) : EngineMove s.records (writeStatus v s).records :=
  unlessPending_store_move offStatus v
    (fun e => { e with ps := v.extractLsb' 0 2, err := if v.getLsbD 2 then false else e.err }) s rfl rfl rfl

theorem writeBitrate_move (v : Byte) (s : State) : EngineMove s.records (writeBitrate v s).records :=
  unlessPending_store_move offBitrate v (fun e => { e with bitrate := v }) s rfl rfl rfl

theorem RegisterWrite.move {v : Byte} {f : State → State} (h : RegisterWrite v f) (s : State) :
    EngineMove s.records (f s).records := by
  cases h with
  | ctrl => exact writeCtrl_move v s
  | status => exact writeStatus_move v s
  | data => exact writeData_move v s
  | bitrate => exact writeBitrate_move v s
  | tmrCtl | argument | ignored | operation => exact .keep
  | reserved => exact .refuse _

theorem SequencerAccess.move {s u : State} (h : SequencerAccess s u) : EngineMove s.records u.records := by
  cases h with
  | none | draw => exact .keep
  | ctrl v => exact writeCtrl_move v s
  | data v => exact writeData_move v s
  | bitrate v => exact writeBitrate_move v s
  | status v => exact writeStatus_move v s

/-- An access of the host: a read leaves the engine, a write while an operation runs is refused, and any other write
is the register's own. -/
theorem exec_move {i : Instr} {s t : State} (h : exec i s = .next t) : EngineMove s.records t.records := by
  rcases exec_cases i s with ⟨-, r, hr, hs⟩ | ⟨-, f, hf, hw⟩
  · obtain rfl : hostRead r = t := Host.Outcome.next.inj (hr.symm.trans h)
    have hkeep : (hostRead r).records = s.records := by
      rcases hs with hs | hs | ⟨-, hs⟩ <;> simp [State.records, hostRead, hs]
    exact hkeep ▸ .keep
  · obtain rfl : hostWrite _ _ f s = t := Host.Outcome.next.inj (hw.symm.trans h)
    cases hb : s.seq.busy with
    | true => exact hostWrite_busy _ _ f s hb ▸ .refuse _
    | false => exact hostWrite_free _ _ f s hb ▸ hf.move s

theorem sequencerStep_move (checks : Bool) (s : State) :
    EngineMove s.records (sequencerStep checks s).records := by
  obtain ⟨u, hu, hview⟩ := sequencerStep_access checks s
  simp only [engineView, Prod.mk.injEq] at hview
  obtain ⟨heng, hevents, hfaults, -⟩ := hview
  have hrecords : (sequencerStep checks s).records = u.records := by simp only [State.records, heng, hevents, hfaults]
  exact hrecords ▸ hu.move

/-- CODE of a status code, read as a status code, is one of 30_encoding.md R120 (10_state.md R32). -/
theorem statusCodes_contains_code :
    ∀ sc ∈ statusCodes, statusCodes.contains (sc.extractLsb' 3 5 ++ 0#3 : Byte) = true := by
  decide

/-- One event was emitted and one of the codes of 30_encoding.md R120 was set. -/
def EmitsWithCode (s t : State) : Prop :=
  ∃ ev sc, t.events = s.events ++ [ev] ∧ sc ∈ statusCodes ∧ t.eng.code = sc.extractLsb' 3 5

theorem completeStart_emits (k : StartKind) (s : State) : EmitsWithCode s (completeStart k s) := by
  unfold completeStart
  cases s.startAnswer with
  | done =>
    cases k with
    | s => exact ⟨.started .s, scStartTx, by simp, by decide, rfl⟩
    | sr => exact ⟨.started .sr, scRepStartTx, by simp, by decide, rfl⟩
  | arbLost => exact ⟨.startFail k .arbLost, scArbLost, by simp, by decide, rfl⟩
  | busError => exact ⟨.startFail k .busError, scBusError, by simp, by decide, rfl⟩

theorem completeAddr_emits (b : Byte) (s : State) : EmitsWithCode s (completeAddr b s) := by
  unfold completeAddr
  cases s.txAnswer with
  | ack =>
    dsimp only
    split_ifs
    · exact ⟨.addr b .ack, scAddrRAck, by simp, by decide, rfl⟩
    · exact ⟨.addr b .ack, scAddrWAck, by simp, by decide, rfl⟩
  | nack =>
    dsimp only
    split_ifs
    · exact ⟨.addr b .nack, scAddrRNack, by simp, by decide, rfl⟩
    · exact ⟨.addr b .nack, scAddrWNack, by simp, by decide, rfl⟩
  | arbLost => exact ⟨.addr b .arbLost, scArbLost, by simp [loseArbitration], by decide, rfl⟩

theorem completeTx_emits (b : Byte) (s : State) : EmitsWithCode s (completeTx b s) := by
  unfold completeTx
  cases s.txAnswer with
  | ack => exact ⟨.tx b .ack, scDataTxAck, by simp, by decide, rfl⟩
  | nack => exact ⟨.tx b .nack, scDataTxNack, by simp, by decide, rfl⟩
  | arbLost => exact ⟨.tx b .arbLost, scArbLost, by simp [loseArbitration], by decide, rfl⟩

theorem completeRx_emits (a : Bool) (s : State) : EmitsWithCode s (completeRx a s) := by
  unfold completeRx
  cases s.rxAnswer with
  | byte v =>
    cases a with
    | true => exact ⟨.rx v .ack, scDataRxAck, by simp, by decide, rfl⟩
    | false => exact ⟨.rx v .nack, scDataRxNack, by simp, by decide, rfl⟩
  | arbLost => exact ⟨.rxLost a, scArbLost, by simp [loseArbitration], by decide, rfl⟩

/-- What a completion says of its command, in the histories and in CODE (43_bus_primitives.md R229). -/
theorem completeCmd_emits (c : Cmd) (s : State) : EmitsWithCode s (completeCmd c s) := by
  cases c with
  | start k => exact completeStart_emits k s
  | addrTx b => exact completeAddr_emits b s
  | dataTx b => exact completeTx_emits b s
  | dataRx a => exact completeRx_emits a s

theorem engineStep_move (s : State) : EngineMove s.records (engineStep s).records := by
  rcases engineStep_cases s with ⟨-, h⟩ | ⟨c, running, h⟩ <;> rw [h]
  · exact .keep
  · obtain ⟨-, -, -, -, -, -, faults, -⟩ := completeCmd_frame c s
    obtain ⟨ev, sc, events, hsc, code⟩ := completeCmd_emits c s
    have hmove := EngineMove.complete (x := s.records) c (((completeCmd c s).setPending none).setInt true).eng ev
      running rfl (by simpa [code] using statusCodes_contains_code sc hsc)
    simpa [State.records, events, faults] using hmove

theorem resetEvent_move (s : State) : EngineMove s.records (resetEvent s).records := by
  have hevents : (resetEvent s).events =
      if s.eng.phase ≠ .idle ∨ s.eng.pending.isSome then s.events ++ [.release] else s.events := by
    unfold resetEvent
    dsimp only
    split_ifs <;> rfl
  have hrecords : (resetEvent s).records = ⟨Eng.reset, (resetEvent s).events, s.faults⟩ := rfl
  rw [hrecords, hevents]
  exact .reset

/-- Every step is one move of the engine, the one that keeps it among them. -/
theorem step_move {s t : State} (h : step s = .next t) : EngineMove s.records t.records := by
  have hturn : s.afterTurn.records = s.records := by simp [State.records]
  have haccess : s.afterTurn.afterAccess.records = s.records := by simp [State.records]
  rcases step_cases h with ⟨-, h⟩ | ⟨-, rfl⟩ | ⟨-, rfl⟩ | ⟨-, rfl⟩ | ⟨-, rfl⟩ | ⟨a, v, -, rfl⟩
  · exact haccess ▸ exec_move h
  · exact hturn ▸ sequencerStep_move _ _
  · exact hturn ▸ engineStep_move _
  · have htick : (timerStep s.afterTurn).records = s.afterTurn.records := by unfold timerStep; split_ifs <;> rfl
    exact (htick.trans hturn) ▸ .keep
  · exact hturn ▸ resetEvent_move _
  · exact hturn ▸ .keep

end Sys2Proof.Machine
end

section
/-! The rules that every move of the engine keeps: a pending command is not replaced (10_state.md R41), the histories
only grow (R48, R49), and the engine stays coherent (R32, R41; 30_encoding.md R120). -/

namespace Sys2Proof.Machine

variable {x y : EngineRecords}

/-- A launch needs that nothing is pending, so a pending command is kept or is over. -/
theorem EngineMove.pending_kept_or_over (h : EngineMove x y) {c : Cmd} (running : x.eng.pending = some c) :
    y.eng.pending = some c ∨ y.eng.pending = none := by
  cases h with
  | keep | refuse => exact .inl running
  | store _ _ pending | cmdError _ _ pending | leave _ _ _ pending | abort _ _ _ pending
  | complete _ _ _ _ pending => exact .inr pending
  | launch _ _ free => exact absurd (running.symm.trans free) (by simp)
  | reset => exact .inr rfl

/-- A move appends events. -/
theorem EngineMove.events_grow (h : EngineMove x y) : x.events <+: y.events := by
  cases h with
  | keep | refuse | store | cmdError | launch => exact ⟨[], List.append_nil _⟩
  | abort | complete => exact ⟨_, rfl⟩
  | leave | reset =>
    dsimp only
    split_ifs <;> simp

/-- A move appends faults. -/
theorem EngineMove.faults_grow (h : EngineMove x y) : x.faults <+: y.faults := by
  cases h with
  | refuse => exact ⟨_, rfl⟩
  | _ => exact ⟨[], List.append_nil _⟩

/-- `engineOk`, said of the engine's fields. -/
structure Eng.Coherent (e : Eng) : Prop where
  quiet : e.pending = none ∨ (e.ctrl.int = false ∧ e.code = 0x1F#5)
  fitsPhase : pendingFits e.pending e.phase = true
  fitsData : dataFits e.pending e.data = true
  code : statusCodes.contains (e.code ++ 0#3) = true

/-- The status code is NO_INFO exactly if CODE is all ones (30_encoding.md R120). -/
theorem code_eq_noInfo_iff (c : BitVec 5) : c ++ 0#3 = scNoInfo ↔ c = 0x1F#5 := by
  revert c; decide

theorem engineOk_iff (s : State) : engineOk s = true ↔ s.eng.Coherent := by
  simp only [engineOk, Bool.and_eq_true, Bool.or_eq_true, Option.isNone_iff_eq_none, Bool.not_eq_true',
    beq_iff_eq, statusCode_eq, code_eq_noInfo_iff]
  exact ⟨fun ⟨⟨⟨quiet, fitsPhase⟩, fitsData⟩, code⟩ => ⟨quiet, fitsPhase, fitsData, code⟩,
    fun ⟨quiet, fitsPhase, fitsData, code⟩ => ⟨⟨⟨quiet, fitsPhase⟩, fitsData⟩, code⟩⟩

/-- With nothing pending only the code matters. -/
theorem Eng.Coherent.of_free {e : Eng} (free : e.pending = none)
    (code : statusCodes.contains (e.code ++ 0#3) = true) : e.Coherent :=
  ⟨.inl free, by rw [free]; rfl, by rw [free]; rfl, code⟩

/-- A move keeps the engine coherent: a refused write touches none of the fields, a launch makes the command fit, and
every other move leaves nothing pending and one of the codes. -/
theorem EngineMove.coherent (h : EngineMove x y) (hx : x.eng.Coherent) : y.eng.Coherent := by
  cases h with
  | keep => exact hx
  | refuse => exact ⟨hx.quiet, hx.fitsPhase, hx.fitsData, hx.code⟩
  | store _ _ pending _ code => exact .of_free pending (code ▸ hx.code)
  | cmdError _ _ pending _ code | leave _ _ _ pending _ code | abort _ _ _ pending _ code =>
    exact .of_free pending (by rw [code]; decide)
  | launch _ _ _ pending _ code int fitsPhase fitsData =>
    exact ⟨.inr ⟨int, code⟩, pending ▸ fitsPhase, pending ▸ fitsData, by rw [code]; decide⟩
  | complete _ _ _ _ pending code => exact .of_free pending code
  | reset => exact .of_free (e := Eng.reset) rfl (by decide)

/-- Settles O35: each step is a move of the engine. -/
theorem pendingCommandIsNeverReplaced : Obligations.PendingCommandIsNeverReplaced :=
  fun _ _ _ running h => (step_move h).pending_kept_or_over running

/-- Settles O54: each step is a move of the engine. -/
theorem historiesAreNeverShortened : Obligations.HistoriesAreNeverShortened :=
  fun _ _ h => ⟨(step_move h).events_grow, (step_move h).faults_grow⟩

/-- Settles O56: each step is a move of the engine. -/
theorem engineStaysCoherent : Obligations.EngineStaysCoherent := fun s t hs h =>
  (engineOk_iff t).mpr ((step_move h).coherent ((engineOk_iff s).mp hs))

/-- Settles O58: at reset the engine holds none of the bus, nothing runs or waits, and BUF lists nothing. -/
theorem resetIsCoherent : Obligations.ResetIsCoherent := by
  unfold Obligations.ResetIsCoherent
  decide

/-- Settles O59: each value is that of `State.reset`. -/
theorem resetHoldsTheValuesOfTheSpec : Obligations.ResetHoldsTheValuesOfTheSpec := by
  unfold Obligations.ResetHoldsTheValuesOfTheSpec
  decide

end Sys2Proof.Machine
end

section
/-! What a read access of the host leaves as it is: all but the port, the latch and the draws (20_memory.md R70, R73;
60_exceptions.md R345). -/

namespace Sys2Proof.Machine

/-- A read's instruction is encoded as the read word of its offset (30_encoding.md R100). -/
theorem encode_decodeRead (o : Offset) : encode (decodeRead o) = readWord o := by
  revert o; decide

/-- A read returns a byte, takes some draws, and can load the latch, the last only at the offset of TMR_CNT_L. -/
theorem exec_readWord_frame {w : AccessWord} (hw : AccessWord.we w = false) (s : State) :
    ∃ (b latch : Byte) (draws : Nat),
      exec (decode w) s =
        .next { s with
          readData := b
          tmr := { s.tmr with hlatch := latch }
          env := { s.env with draws := draws } } ∧
      (AccessWord.off w ≠ 0x05#5 → latch = s.tmr.hlatch) := by
  have hdecode : decode w = decodeRead (AccessWord.off w) := by simp [decode, hw]
  have hencode : encode (decode w) = readWord (AccessWord.off w) := by rw [hdecode, encode_decodeRead]
  have hwe : AccessWord.we (encode (decode w)) = false := by rw [hencode]; exact we_accessWord ..
  have hoff : AccessWord.off (encode (decode w)) = AccessWord.off w := by rw [hencode]; exact off_accessWord ..
  rcases exec_cases (decode w) s with ⟨-, ⟨b, u⟩, hexec, hstate⟩ | ⟨hwrite, -⟩
  · rcases hstate with hsame | hdrawn | ⟨hlatch, hloaded⟩
    · obtain rfl : u = s := hsame
      exact ⟨b, _, _, hexec, fun _ => rfl⟩
    · obtain rfl : u = s.drawn := hdrawn
      exact ⟨b, _, _, hexec, fun _ => rfl⟩
    · obtain rfl : u = _ := hloaded
      exact ⟨b, _, _, hexec, fun hne => absurd (hoff.symm.trans hlatch) hne⟩
  · exact absurd (hwe.symm.trans hwrite) Bool.false_ne_true

/-- Settles O12: the next state is the one before but for the port, the latch and the draws. -/
theorem readsHaveNoSideEffectButTheLatch : Obligations.ReadsHaveNoSideEffectButTheLatch := by
  intro w s hw
  obtain ⟨b, latch, draws, hexec, hlatch⟩ := exec_readWord_frame hw s
  refine ⟨_, hexec, rfl, rfl, rfl, rfl, rfl, rfl, rfl, fun _ => rfl, fun hne => ?_, rfl, rfl⟩
  rw [hlatch hne]

end Sys2Proof.Machine
end

section
/-! BUF under the moves of a step: only the store line of `read` and the host's direct write touch it
(20_memory.md R70, R75, R77; 45_transactions.md R316). -/

namespace Sys2Proof.Machine

/-- Every byte reads as before where the memory is the same. -/
theorem memRead_of_buf {s t : State} (h : t.buf = s.buf) (a : Half) : t.memRead a = s.memRead a := by
  simp only [State.memRead, h]

theorem RegisterWrite.keepsBuf {v : Byte} {f : State → State} (h : RegisterWrite v f) (s : State) :
    (f s).buf = s.buf := by
  cases h with
  | ctrl => exact writeCtrl_buf v s
  | status => exact writeStatus_buf v s
  | data => exact writeData_buf v s
  | bitrate => exact writeBitrate_buf v s
  | tmrCtl | argument | ignored | operation | reserved => rfl

/-- No access of the host touches BUF: a read touches the port, the latch and the draws, a refused write records a
fault, and any other write is the register's own. -/
theorem exec_keepsBuf {i : Instr} {s t : State} (h : exec i s = .next t) : t.buf = s.buf := by
  rcases exec_cases i s with ⟨-, r, hr, hs⟩ | ⟨-, f, hf, hw⟩
  · obtain rfl : hostRead r = t := Host.Outcome.next.inj (hr.symm.trans h)
    rcases hs with hs | hs | ⟨-, hs⟩ <;> simp [hostRead, hs]
  · obtain rfl : hostWrite _ _ f s = t := Host.Outcome.next.inj (hw.symm.trans h)
    cases hb : s.seq.busy with
    | true => simp [hb]
    | false => simpa [hb] using hf.keepsBuf s

/-- Settles O29: no access touches BUF. -/
theorem noAccessChangesBuf : Obligations.NoAccessChangesBuf :=
  fun _ _ _ h => memRead_of_buf (exec_keepsBuf h)

theorem engineStep_keepsBuf (s : State) : (engineStep s).buf = s.buf := by
  rcases engineStep_cases s with ⟨-, h⟩ | ⟨c, -, h⟩
  · rw [h]
  · obtain ⟨-, -, -, -, -, hbuf, -⟩ := completeCmd_frame c s
    simp [h, hbuf]

theorem timerStep_keepsBuf (s : State) : (timerStep s).buf = s.buf := by
  unfold timerStep
  split_ifs <;> rfl

/-- Every state that a procedure's line leads to has the memory of `s`. -/
def Flow.KeepsBuf {L : Type} (s : State) : Flow L → Prop
  | .wait => True
  | .line _ t => t.buf = s.buf
  | .ret _ t => t.buf = s.buf

theorem startCore_keepsBuf (a : Byte) (l : StartLine) (s : State) : (startCore a l s).KeepsBuf s := by
  cases l <;> dsimp only [startCore]
  case command | transmit => exact writeCtrl_buf _ s
  case data => exact writeData_buf a s
  case status | addrStatus =>
    split_ifs
    · exact rfl
    · trivial
  case checkStart | checkAddr => split_ifs <;> exact rfl
  case returnOk => exact rfl

theorem writeByteCore_keepsBuf (b : Byte) (l : ByteLine) (s : State) : (writeByteCore b l s).KeepsBuf s := by
  cases l <;> dsimp only [writeByteCore]
  case data => exact writeData_buf b s
  case transmit => exact writeCtrl_buf _ s
  case status | disarm =>
    split_ifs
    · exact rfl
    · trivial
  case checkAck | checkExhausted => split_ifs <;> exact rfl
  case budget | spend | arm => exact rfl

theorem readByteCore_keepsBuf (l : PollLine) (s : State) : (readByteCore l s).KeepsBuf s := by
  cases l <;> dsimp only [readByteCore]
  case data => exact readDataReg_buf s
  case disarm =>
    split_ifs
    · exact rfl
    · trivial
  case poll | checkExhausted => split_ifs <;> exact rfl
  case budget | returnOk | spend | arm => exact rfl

/-- A call keeps BUF if the procedure's line and the step of the return do. -/
theorem runCall_keepsBuf {L : Type} {f : Flow L} {s : State} {wrap : L → SeqPos}
    {after : TransferOutcome → State → State} (hf : f.KeepsBuf s) (ha : ∀ o t, (after o t).buf = t.buf) :
    (runCall f s wrap after).buf = s.buf := by
  cases f with
  | wait => rfl
  | line l t => exact hf
  | ret o t => exact (ha o t).trans hf

theorem closeFailed_keepsBuf (s : State) : (closeFailed s).buf = s.buf := writeCtrl_buf _ s

theorem closeOk_keepsBuf (s : State) : (closeOk s).buf = s.buf := writeCtrl_buf _ s

theorem writeOpLine_keepsBuf (checks : Bool) (l : WriteLine) (s : State) :
    (writeOpLine checks l s).buf = s.buf := by
  cases l with
  | start l => exact runCall_keepsBuf (startCore_keepsBuf _ l s) fun _ _ => rfl
  | byte l => exact runCall_keepsBuf (writeByteCore_keepsBuf _ l s) fun _ _ => rfl
  | checkStart | checkByte =>
    simp only [writeOpLine]
    split_ifs
    · exact closeFailed_keepsBuf s
    · rfl
  | index | fetch | next => rfl
  | close => exact closeOk_keepsBuf s

theorem readOpLine_keepsBuf {l : ReadLine} (hl : l ≠ .store) (s : State) : (readOpLine l s).buf = s.buf := by
  cases l with
  | store => exact absurd rfl hl
  | start l => exact runCall_keepsBuf (startCore_keepsBuf _ l s) fun _ _ => rfl
  | poll l => exact runCall_keepsBuf (readByteCore_keepsBuf l s) fun _ _ => rfl
  | checkStart | checkByte =>
    simp only [readOpLine]
    split_ifs
    · exact closeFailed_keepsBuf s
    · rfl
  | index => rfl
  | arm => exact writeCtrl_buf _ s
  | next =>
    simp only [readOpLine]
    split_ifs <;> rfl
  | close => exact closeOk_keepsBuf s

/-- Every line but the store line of `read` keeps BUF. -/
theorem seqLine_keepsBuf (checks : Bool) {s : State} (hstore : s.seq.pos ≠ .read .store) :
    (seqLine checks s).buf = s.buf := by
  unfold seqLine
  cases hp : s.seq.pos with
  | none | initTicks | initRetries | initArm | delayArm => rfl
  | initBitrate => exact writeBitrate_buf _ s
  | initStatus => exact writeStatus_buf _ s
  | stop | restart => exact writeCtrl_buf _ s
  | initDisarm | delayDisarm =>
    dsimp only
    split_ifs <;> rfl
  | start l => exact runCall_keepsBuf (startCore_keepsBuf _ l s) fun _ _ => rfl
  | writeByte l => exact runCall_keepsBuf (writeByteCore_keepsBuf _ l s) fun _ _ => rfl
  | readByte l => exact runCall_keepsBuf (readByteCore_keepsBuf l s) fun _ _ => rfl
  | readByteEnd =>
    simp only [readByteEndLine]
    split_ifs <;> rfl
  | write l => exact writeOpLine_keepsBuf checks l s
  | read l => exact readOpLine_keepsBuf (fun hl => hstore (hl ▸ hp)) s

/-- The store line of `read` writes the byte of the loop's index (45_transactions.md R311). -/
theorem seqLine_readStore (checks : Bool) {s : State} (hstore : s.seq.pos = .read .store) :
    seqLine checks s = (s.memWrite (bufAddress s.seq.p s.seq.i) s.seq.v).goto (.read .next) := by
  simp only [seqLine, hstore, readOpLine]

/-- A move of the sequencer keeps BUF, or is the store line of `read`, which writes one byte. -/
theorem sequencerStep_buf_cases (checks : Bool) (s : State) :
    (sequencerStep checks s).buf = s.buf ∨
      (s.seq.busy = true ∧ s.seq.pos = .read .store ∧
        (sequencerStep checks s).buf = (s.memWrite (bufAddress s.seq.p s.seq.i) s.seq.v).buf) := by
  cases hbusy : s.seq.busy with
  | false => exact .inl (by rw [sequencerStep_idle checks s hbusy])
  | true =>
    rw [sequencerStep_busy checks s hbusy]
    by_cases hstore : s.seq.pos = .read .store
    · exact .inr ⟨rfl, hstore, by rw [seqLine_readStore checks hstore, goto_buf]⟩
    · exact .inl (seqLine_keepsBuf checks hstore)

/-- Settles O52: of the agents only the sequencer, at the store line of `read`, and the host's direct write touch BUF,
and each of them writes one byte. -/
theorem bufChangesOnlyAtAReadsStore : Obligations.BufChangesOnlyAtAReadsStore := by
  intro s t h
  have hturn : s.afterTurn.buf = s.buf := afterTurn_buf s
  rcases step_cases h with ⟨-, h⟩ | ⟨hseq, rfl⟩ | ⟨-, rfl⟩ | ⟨-, rfl⟩ | ⟨-, rfl⟩ | ⟨a, v, hwrite, rfl⟩
  · exact .inl (memRead_of_buf (by simpa using exec_keepsBuf h))
  · rcases sequencerStep_buf_cases Config.writeChecksStart s.afterTurn with hkeep | ⟨hbusy, hstore, hbuf⟩
    · exact .inl (memRead_of_buf (hkeep.trans hturn))
    · rw [afterTurn_seq] at hbusy hstore hbuf
      refine .inr (.inl ⟨hseq, hbusy, hstore, fun a ha => ?_⟩)
      rw [memRead_of_buf hbuf, memRead_memWrite_other _ _ _ _ ha, memRead_of_buf hturn]
  · exact .inl (memRead_of_buf ((engineStep_keepsBuf _).trans hturn))
  · exact .inl (memRead_of_buf ((timerStep_keepsBuf _).trans hturn))
  · exact .inl (memRead_of_buf hturn)
  · refine .inr (.inr ⟨a, v, hwrite, fun b hb => ?_⟩)
    rw [memRead_memWrite_other _ _ _ _ hb, memRead_of_buf hturn]

end Sys2Proof.Machine
end

section
/-! The round trips between access words and instructions, and the one row of the opcode table that has a word
(30_encoding.md R100, R101, R104, R112, R113). -/

namespace Sys2Proof

/-! ### CTRL and OP bytes -/

theorem decodeWrite_ctrl (v : Byte) : decodeWrite 0x00#5 v = decodeCtrl v := rfl

theorem decodeWrite_op (v : Byte) : decodeWrite 0x08#5 v = decodeOp v := rfl

theorem decodeCtrl_reservedLow (int ea sta sto sa en : Bool) :
    decodeCtrl (ctrlByte int ea sta sto sa en 1#2) = .wrCtrlReservedLow1 int ea sta sto sa en ∧
      decodeCtrl (ctrlByte int ea sta sto sa en 2#2) = .wrCtrlReservedLow2 int ea sta sto sa en ∧
        decodeCtrl (ctrlByte int ea sta sto sa en 3#2) = .wrCtrlReservedLow3 int ea sta sto sa en := by
  revert int ea sta sto sa en; decide

theorem decodeCtrl_disable (int ea sta sto sa : Bool) :
    decodeCtrl (ctrlByte int ea sta sto sa false 0#2) = .wrCtrlDisable int ea sta sto sa := by
  revert int ea sta sto sa; decide

theorem decodeCtrl_latch (ea sta sto sa : Bool) :
    decodeCtrl (ctrlByte false ea sta sto sa true 0#2) = .wrCtrlLatch ea sta sto sa := by
  revert ea sta sto sa; decide

theorem decodeCtrl_launching (ea sa : Bool) :
    decodeCtrl (ctrlByte true ea false false sa true 0#2) = .wrCtrlTransfer ea sa ∧
      decodeCtrl (ctrlByte true ea false true sa true 0#2) = .wrCtrlStop ea sa ∧
        decodeCtrl (ctrlByte true ea true false sa true 0#2) = .wrCtrlStart ea sa ∧
          decodeCtrl (ctrlByte true ea true true sa true 0#2) = .wrCtrlReservedStasto ea sa := by
  revert ea sa; decide

/-- The rows of reserved OP bytes that have more than one byte (30_encoding.md R113). -/
def reservedOpPatterns : List (Byte → Instr) :=
  [.opReservedHi80, .opReservedHi40, .opReservedHi20, .opReservedOpc0, .opReservedOpcAb, .opReservedOpcCf,
    .opReservedR12, .opReservedR14]

/-- No reserved pattern is shadowed by one that the decoder tests before it. -/
theorem decodeOp_reserved : ∀ c ∈ reservedOpPatterns, ∀ v : Byte, (c v).WellFormed → decodeOp v = c v := by
  decide

theorem encode_decodeCtrl (v : Byte) : encode (decodeCtrl v) = writeWord 0x00#5 v := by
  revert v; decide

theorem encode_decodeOp (v : Byte) : encode (decodeOp v) = writeWord 0x08#5 v := by
  revert v; decide

theorem decodeRead_wellFormed (o : Offset) : (decodeRead o).WellFormed := by
  revert o; decide

theorem decodeCtrl_wellFormed (v : Byte) : (decodeCtrl v).WellFormed := by
  revert v; decide

theorem decodeOp_wellFormed (v : Byte) : (decodeOp v).WellFormed := by
  revert v; decide

/-! ### Every write -/

/-- A write of any register but CTRL and OP carries its byte as it is, and every byte is well-formed there. -/
theorem decodeWrite_plain (o : Offset) (v : Byte) (hctrl : o ≠ 0x00#5) (hop : o ≠ 0x08#5) :
    encode (decodeWrite o v) = writeWord o v ∧ (decodeWrite o v).WellFormed := by
  obtain ⟨n⟩ := o
  fin_cases n
  · exact absurd rfl hctrl
  pick_goal 8
  · exact absurd rfl hop
  all_goals exact ⟨rfl, rfl⟩

/-- The instruction of a write word is well-formed and is encoded as that word. -/
theorem decodeWrite_spec (o : Offset) (v : Byte) :
    encode (decodeWrite o v) = writeWord o v ∧ (decodeWrite o v).WellFormed := by
  by_cases hctrl : o = 0x00#5
  · subst hctrl
    exact ⟨encode_decodeCtrl v, decodeCtrl_wellFormed v⟩
  · by_cases hop : o = 0x08#5
    · subst hop
      exact ⟨encode_decodeOp v, decodeOp_wellFormed v⟩
    · exact decodeWrite_plain o v hctrl hop

/-- Settles O1: per constructor, the word's fields choose the decoder's arm; a CTRL command by its class, a reserved
OP byte by its pattern. -/
theorem decodeEncodeReturnsTheInstruction : Obligations.DecodeEncodeReturnsTheInstruction := by
  intro i hi
  cases i <;> simp only [encode, decode_readWord, decode_writeWord, decodeWrite_ctrl, decodeWrite_op,
    decodeCtrl_reservedLow, decodeCtrl_disable, decodeCtrl_latch, decodeCtrl_launching]
  case opReservedHi80 v | opReservedHi40 v | opReservedHi20 v | opReservedOpc0 v | opReservedOpcAb v |
      opReservedOpcCf v | opReservedR12 v | opReservedR14 v =>
    exact decodeOp_reserved _ (by simp [reservedOpPatterns]) v hi
  all_goals rfl

/-- Settles O2: a read word is encoded with D written as 0, a write word as it is. -/
theorem encodeDecodeReturnsTheWord : Obligations.EncodeDecodeReturnsTheWord := by
  intro w
  rcases word_cases w with ⟨hread, hdecode⟩ | ⟨hwrite, hw, hdecode⟩
  · rw [hdecode, Machine.encode_decodeRead, hread, if_neg Bool.false_ne_true]
  · rw [hdecode, (decodeWrite_spec _ _).1, ← hw, hwrite, if_pos rfl]

/-! ### The rows of the opcode table -/

/-- One word of each of the 93 rows: D = 0 at every offset, then the other CTRL classes and OP rows. -/
def wordOfEachRow : List AccessWord :=
  (List.range 64).map (fun n => BitVec.ofNat 14 (256 * n)) ++
    [0x2001, 0x2002, 0x2003, 0x2004, 0x2084, 0x2094, 0x20A4, 0x20B4] ++
      [0x2801, 0x2802, 0x2803, 0x2804, 0x2805, 0x2806, 0x2807, 0x2817, 0x2808, 0x2818, 0x2809, 0x2880, 0x2840,
        0x2820, 0x280A, 0x280C, 0x2811, 0x2812, 0x2814, 0x2816, 0x2819]

/-- The rows of the opcode table. -/
def opcodeRows : List Row := wordOfEachRow.map fun w => (decode w).row

theorem row_mem_opcodeRows (i : Instr) : i.row ∈ opcodeRows := by
  cases i <;> simp only [Instr.row] <;> decide

theorem opcodeRows_apart : opcodeRows.Pairwise fun r q => r.apart q = true := by decide

/-- Rows that are apart share no word: under both masks it would have both values. -/
theorem Row.not_apart_of_admits {r q : Row} {w : AccessWord} (hr : r.admits w = true) (hq : q.admits w = true) :
    r.apart q = false := by
  have hrw : w &&& r.mask = r.value := beq_iff_eq.1 hr
  have hqw : w &&& q.mask = q.value := beq_iff_eq.1 hq
  have hboth : r.value &&& q.mask = q.value &&& r.mask := by
    rw [← hrw, ← hqw, BitVec.and_assoc, BitVec.and_assoc, BitVec.and_comm r.mask]
  simp [Row.apart, hboth]

theorem Row.apart_comm (r q : Row) : r.apart q = q.apart r := bne_comm

/-- Two rows that have a word in common are one row. -/
theorem row_eq_of_admits {i j : Instr} {w : AccessWord} (hi : i.row.admits w = true) (hj : j.row.admits w = true) :
    i.row = j.row := by
  by_contra hne
  have hsymm : Std.Symm fun r q : Row => r.apart q = true := ⟨fun r q h => (Row.apart_comm q r).trans h⟩
  have hapart : i.row.apart j.row = true :=
    opcodeRows_apart.forall (row_mem_opcodeRows i) (row_mem_opcodeRows j) hne
  exact Bool.false_ne_true ((Row.not_apart_of_admits hi hj).symm.trans hapart)

/-- A read's row fixes WE and OFF and leaves D free. -/
theorem decodeRead_row (o : Offset) : (decodeRead o).row = ⟨0x3F00#14, readWord o⟩ := by
  revert o; decide

/-- The mask of WE and OFF clears D. -/
theorem accessWord_and_weOff (b : Bool) (o : Offset) (d : Byte) :
    accessWord b o d &&& 0x3F00#14 = accessWord b o 0#8 := by
  change (BitVec.ofBool b ++ o ++ d) &&& (BitVec.allOnes 1 ++ BitVec.allOnes 5 ++ 0#8) = _
  rw [BitVec.and_append, BitVec.and_append, BitVec.and_allOnes, BitVec.and_allOnes, BitVec.and_zero]
  rfl

open Laws.EncodedRow in
theorem row_admits_encode (i : Instr) (hi : i.WellFormed) : i.row.admits (encode i) = true := by
  revert hi
  cases i
  exacts [
    rdCtrl, rdStatus, rdData, rdBitrate, rdTmrCtl, rdTmrCntL, rdTmrCntH, rdRsv07, rdOp, rdSeqStat, rdArgA, rdArgB,
    rdArgM, rdResult, rdArgNL, rdArgNH, rdArgPL, rdArgPH, rdCfgTicksL, rdCfgTicksH, rdCfgRetries, rdRsv15, rdRsv16,
    rdRsv17, rdRsv18, rdRsv19, rdRsv1A, rdRsv1B, rdRsv1C, rdRsv1D, rdRsv1E, rdRsv1F, wrStatus _, wrData _,
    wrBitrate _, wrTmrCtl _, wrRoTmrCntL _, wrRoTmrCntH _, wrRsv07 _, wrRoSeqStat _, wrArgA _, wrArgB _, wrArgM _,
    wrRoResult _, wrArgNL _, wrArgNH _, wrArgPL _, wrArgPH _, wrRoCfgTicksL _, wrRoCfgTicksH _, wrRoCfgRetries _,
    wrRsv15 _, wrRsv16 _, wrRsv17 _, wrRsv18 _, wrRsv19 _, wrRsv1A _, wrRsv1B _, wrRsv1C _, wrRsv1D _, wrRsv1E _,
    wrRsv1F _, wrCtrlReservedLow1 _ _ _ _ _ _, wrCtrlReservedLow2 _ _ _ _ _ _, wrCtrlReservedLow3 _ _ _ _ _ _,
    wrCtrlDisable _ _ _ _ _, wrCtrlLatch _ _ _ _, wrCtrlTransfer _ _, wrCtrlStop _ _, wrCtrlStart _ _,
    wrCtrlReservedStasto _ _, opInit, opStart, opStop, opRestart, opWriteByte, opReadByte, opWrite, opWriteR,
    opRead, opReadR, opDelay, opReservedHi80 _, opReservedHi40 _, opReservedHi20 _, opReservedOpc0 _,
    opReservedOpcAb _, opReservedOpcCf _, opReservedR11, opReservedR12 _, opReservedR14 _, opReservedR16,
    opReservedR19]

/-- Every access word is one of the words of the row it decodes to: a read's row leaves D free, and a write's word is
what its instruction is encoded as. -/
theorem decode_row_admits (w : AccessWord) : (decode w).WellFormed ∧ (decode w).row.admits w = true := by
  rcases word_cases w with ⟨hread, hdecode⟩ | ⟨-, hw, hdecode⟩
  · have hmasked : w &&& 0x3F00#14 = readWord (AccessWord.off w) := by
      rw [← accessWord_fields w, hread, accessWord_and_weOff, off_accessWord, readWord]
    rw [hdecode, decodeRead_row]
    exact ⟨decodeRead_wellFormed _, beq_iff_eq.2 hmasked⟩
  · obtain ⟨hencode, hwf⟩ := decodeWrite_spec (AccessWord.off w) (AccessWord.d w)
    have hadmits := row_admits_encode _ hwf
    rw [hencode, ← hw] at hadmits
    exact hdecode ▸ ⟨hwf, hadmits⟩

/-- Settles O3: the decoded row has the word, and rows that share a word are one row. -/
theorem everyAccessWordSelectsOneRow : Obligations.EveryAccessWordSelectsOneRow := by
  intro w
  obtain ⟨hwf, hadmits⟩ := decode_row_admits w
  exact ⟨hwf, hadmits, fun _ hi => row_eq_of_admits hi hadmits⟩

/-- Settles O4: the decoder run on each word. -/
theorem sampleAccessWordsDecode : Obligations.SampleAccessWordsDecode := by
  unfold Obligations.SampleAccessWordsDecode
  decide

end Sys2Proof
end

section
/-! The refusal of a reserved OP byte (30_encoding.md R113; 40_register_interface.md R154). -/

namespace Sys2Proof.Machine

/-- Where no operation runs, an access that writes a reserved byte to OP records OP_RESERVED and sets ERR. -/
theorem exec_opReserved_free {i : Instr} {v : Byte} {s : State}
    (hexec : exec i s = .next (hostWrite offOp v (opReserved v) s)) (hfree : s.seq.busy = false) :
    exec i s =
      .next { s with
        eng := { s.eng with err := true }
        faults := s.faults ++ [⟨.opReserved, 0x08#5, v⟩] } := by
  rw [hexec, hostWrite_free _ _ _ _ hfree]
  rfl

/-- Settles O28: each of the eleven rows writes a reserved byte to OP. -/
theorem reservedOpBytesAreRefused : Obligations.ReservedOpBytesAreRefused := by
  intro v s hfree x hx
  simp only [List.mem_cons, List.not_mem_nil, or_false] at hx
  rcases hx with rfl | rfl | rfl | rfl | rfl | rfl | rfl | rfl | rfl | rfl | rfl <;>
    exact exec_opReserved_free rfl hfree

end Sys2Proof.Machine
end

section
/-! The host's write accesses: what the two checks that come before a register's own write do (40_register_interface.md
R140; 60_exceptions.md R345, R348), and what each write stores (R144 to R176). -/

namespace Sys2Proof.Machine

/-- Settles O13: an access by a write word is a host write of the word's byte to its offset, and the busy check comes
before the register's own write. -/
theorem hostWriteWhileBusyIsRefused : Obligations.HostWriteWhileBusyIsRefused := by
  intro w s hw hbusy
  have hencode : encode (decode w) = w := by rw [encodeDecodeReturnsTheWord w, if_pos hw]
  rcases exec_cases (decode w) s with ⟨hread, -⟩ | ⟨-, f, -, hexec⟩
  · rw [hencode, hw] at hread
    exact absurd hread.symm Bool.false_ne_true
  · rw [hexec, hencode, hostWrite_busy _ _ f s hbusy]
    rfl

section Write

variable {i : Instr} {off : Offset} {v : Byte} {f : State → State} {s t : State}

/-- Where no operation runs, a host write is the register's own write. -/
theorem exec_write_free (hexec : exec i s = .next (hostWrite off v f s)) (hfree : s.seq.busy = false)
    (hstate : f s = t) : exec i s = .next t := by
  rw [hexec, hostWrite_free _ _ _ _ hfree, hstate]

/-- A write that ENGINE_BUSY can refuse is made where no command is pending. -/
theorem exec_write_accepted (hexec : exec i s = .next (hostWrite off v (unlessPending off v f) s))
    (hfree : s.seq.busy = false) (hnone : s.eng.pending = none) (hstate : f s = t) : exec i s = .next t :=
  exec_write_free hexec hfree ((unlessPending_free _ _ _ _ hnone).trans hstate)

/-- A write that ENGINE_BUSY can refuse is refused while a command is pending, and recorded (60_exceptions.md R345). -/
theorem exec_write_refused (hexec : exec i s = .next (hostWrite off v (unlessPending off v f) s))
    (hfree : s.seq.busy = false) (hpending : s.eng.pending ≠ none) :
    exec i s =
      .next { s with
        eng := { s.eng with err := true }
        faults := s.faults ++ [⟨.engineBusy, off, v⟩] } := by
  obtain ⟨c, hc⟩ := Option.ne_none_iff_exists'.mp hpending
  exact exec_write_free hexec hfree (unlessPending_pending _ _ _ _ c hc)

end Write

/-- Settles O14: a pending command does not matter; a half is put together with the other half, which is kept. -/
theorem argumentWritesStore : Obligations.ArgumentWritesStore := by
  intro v s hfree
  refine ⟨exec_write_free rfl hfree rfl, exec_write_free rfl hfree rfl, exec_write_free rfl hfree rfl, ?_, ?_, ?_, ?_⟩
  · exact ⟨withLow s.args.n v, exec_write_free rfl hfree rfl, withLow_toNat _ _⟩
  · exact ⟨withHigh s.args.n v, exec_write_free rfl hfree rfl, withHigh_toNat _ _⟩
  · exact ⟨withLow s.args.p v, exec_write_free rfl hfree rfl, withLow_toNat _ _⟩
  · exact ⟨withHigh s.args.p v, exec_write_free rfl hfree rfl, withHigh_toNat _ _⟩

/-- Settles O15: bit 2 of the byte clears ERR where the write is accepted. -/
theorem statusWriteSetsPrescalerAndClearsError : Obligations.StatusWriteSetsPrescalerAndClearsError := by
  intro v s hfree
  refine ⟨fun hnone => ?_, fun hpending => exec_write_refused rfl hfree hpending⟩
  have herr : (if v.getLsbD 2 then false else s.eng.err) = (s.eng.err && !v.getLsbD 2) := by
    cases v.getLsbD 2 <;> simp
  rw [← herr]
  exact exec_write_accepted rfl hfree hnone rfl

/-- Settles O16: each of the two registers is stored, or the write is refused. -/
theorem dataAndBitrateWritesStore : Obligations.DataAndBitrateWritesStore := fun _ _ hfree =>
  ⟨fun hnone => ⟨exec_write_accepted rfl hfree hnone rfl, exec_write_accepted rfl hfree hnone rfl⟩,
    fun hpending => ⟨exec_write_refused rfl hfree hpending, exec_write_refused rfl hfree hpending⟩⟩

/-- Settles O17: the write of TMR_CTL is made whether or not a command is pending. -/
theorem timerControlWriteRunsAndClears : Obligations.TimerControlWriteRunsAndClears :=
  fun _ _ hfree => exec_write_free rfl hfree rfl

/-- Settles O18: each of the nineteen rows is an ignored write. -/
theorem readOnlyAndReservedWritesAreIgnored : Obligations.ReadOnlyAndReservedWritesAreIgnored := by
  intro v s hfree i hi
  simp only [List.mem_cons, List.not_mem_nil, or_false] at hi
  rcases hi with rfl | rfl | rfl | rfl | rfl | rfl | rfl | rfl | rfl | rfl | rfl | rfl | rfl | rfl | rfl | rfl | rfl |
      rfl | rfl <;>
    exact exec_write_free rfl hfree rfl

/-- Settles O20: ENGINE_BUSY can refuse each of the four classes. -/
theorem ctrlWriteWhileCommandPendingIsRefused : Obligations.CtrlWriteWhileCommandPendingIsRefused := by
  intro int ea sta sto sa s hfree hpending x hx
  simp only [List.mem_cons, List.not_mem_nil, or_false] at hx
  rcases hx with rfl | rfl | rfl | rfl <;> exact exec_write_refused rfl hfree hpending

/-- Settles O27: each of the eleven rows starts its operation, whatever the engine does. -/
theorem operationWritesLatchAndStart : Obligations.OperationWritesLatchAndStart := by
  intro s hfree x hx
  simp only [List.mem_cons, List.not_mem_nil, or_false] at hx
  rcases hx with rfl | rfl | rfl | rfl | rfl | rfl | rfl | rfl | rfl | rfl | rfl <;>
    exact exec_write_free rfl hfree rfl

end Sys2Proof.Machine
end

section
/-! The host's read accesses: the byte each register is read as (40_register_interface.md R141 to R175). -/

namespace Sys2Proof.Machine

/-- STATUS read as a byte holds its three fields (40_register_interface.md R143). -/
theorem statusValue_fields (s : State) :
    (statusValue s).extractLsb' 3 5 = s.eng.code ∧ (statusValue s).getLsbD 2 = s.eng.err ∧
      (statusValue s).extractLsb' 0 2 = s.eng.ps := by
  have h : ∀ (c : BitVec 5) (e : Bool) (p : BitVec 2),
      (c ++ BitVec.ofBool e ++ p : Byte).extractLsb' 3 5 = c ∧ (c ++ BitVec.ofBool e ++ p : Byte).getLsbD 2 = e ∧
        (c ++ BitVec.ofBool e ++ p : Byte).extractLsb' 0 2 = p := by
    decide
  exact h _ _ _

/-- The value of TMR_CTL read as a byte (40_register_interface.md R149). -/
theorem tmrCtlValue_toNat (s : State) : (tmrCtlValue s).toNat = if s.tmr.run then 1 else 0 := by
  rw [tmrCtlValue]
  cases s.tmr.run <;> rfl

/-- The value of SEQ_STAT read as a byte (40_register_interface.md R155). -/
theorem seqStatValue_toNat (s : State) :
    (seqStatValue s).toNat = (if s.seq.busy then 1 else 0) + 2 * s.seq.outcome.bits.toNat := by
  rw [seqStatValue]
  cases s.seq.busy <;> cases s.seq.outcome <;> rfl

theorem readDrawn_of_holds {d : DrawnByte} {v : Byte} (s : State) (h : d = .holds v) : s.readDrawn d = (v, s) := by
  rw [h, readDrawn_holds]

theorem readDrawn_of_unspecified {d : DrawnByte} (s : State) (h : d = .unspecified) : s.readDrawn d = s.drawByte := by
  rw [h, readDrawn_unspecified, State.drawByte]

/-- With no command pending, DATA is read as what it holds, or drawn (40_register_interface.md R145). -/
theorem readDataReg_free {s : State} (hnone : s.eng.pending = none) :
    readDataReg s = s.readDrawn s.eng.data := by
  simp [readDataReg, hnone]

/-- While a command is pending, and where DATA is unspecified, a read of DATA is a draw (40_register_interface.md
R145; 10_state.md R63). -/
theorem readDataReg_drawn {s : State} (h : s.eng.pending ≠ none ∨ s.eng.data = .unspecified) :
    readDataReg s = s.drawByte := by
  cases hpending : s.eng.pending with
  | some c => simp [readDataReg, hpending]
  | none =>
    rw [readDataReg_free hpending, readDrawn_of_unspecified s (h.resolve_left (absurd hpending))]

theorem exec_rdData (s : State) : exec .rdData s = .next (hostRead (readDataReg s)) := rfl

theorem exec_rdResult (s : State) : exec .rdResult s = .next (hostRead (s.readDrawn s.result)) := rfl

/-- Settles O7: the bits of the bytes that CTRL and STATUS are read as. -/
theorem engineRegisterReads : Obligations.EngineRegisterReads := fun s =>
  ⟨⟨ctrlValue s, rfl, by simp [ctrlValue]⟩, ⟨statusValue s, rfl, statusValue_fields s⟩, rfl⟩

/-- Settles O8: by what DATA and RESULT hold. -/
theorem dataAndResultReadsReturnTheByteOrADraw : Obligations.DataAndResultReadsReturnTheByteOrADraw := by
  intro s
  refine ⟨fun v hnone hdata => ?_, fun hdrawn => ?_, fun v hresult => ?_, fun hresult => ?_⟩
  · rw [exec_rdData, readDataReg_free hnone, readDrawn_of_holds s hdata]
    rfl
  · rw [exec_rdData, readDataReg_drawn hdrawn]
    rfl
  · rw [exec_rdResult, readDrawn_of_holds s hresult]
    rfl
  · rw [exec_rdResult, readDrawn_of_unspecified s hresult]
    rfl

/-- Settles O9: the low read loads the latch with the high byte that goes with the low one. -/
theorem timingSourceReadsGiveOneSnapshot : Obligations.TimingSourceReadsGiveOneSnapshot := by
  refine ⟨fun s => ⟨⟨tmrCtlValue s, rfl, tmrCtlValue_toNat s⟩,
    ⟨lowByte s.tmr.cnt, highByte s.tmr.cnt, rfl, highByte_append_lowByte _⟩, rfl⟩, ?_⟩
  intro s t u v hlow hlatch hhigh
  obtain rfl : hostRead (readTmrCntL s) = t := Host.Outcome.next.inj hlow
  obtain rfl : hostRead (u.tmr.hlatch, u) = v := Host.Outcome.next.inj hhigh
  calc u.tmr.hlatch ++ lowByte s.tmr.cnt
      = highByte s.tmr.cnt ++ lowByte s.tmr.cnt := congrArg (· ++ lowByte s.tmr.cnt) hlatch
    _ = s.tmr.cnt := highByte_append_lowByte _

/-- Settles O10: SEQ_STAT by its value; the other registers are read as they are. -/
theorem sequencerRegisterReads : Obligations.SequencerRegisterReads := by
  intro s
  refine ⟨rfl, ⟨seqStatValue s, rfl, ?_⟩, rfl, rfl, rfl, rfl, rfl, rfl, rfl, rfl, rfl, rfl⟩
  rw [seqStatValue_toNat]
  cases s.seq.outcome <;> rfl

/-- Settles O11: each of the twelve rows reads the byte 0x00. -/
theorem reservedOffsetsReadZero : Obligations.ReservedOffsetsReadZero := by
  intro s i hi
  simp only [List.mem_cons, List.not_mem_nil, or_false] at hi
  rcases hi with rfl | rfl | rfl | rfl | rfl | rfl | rfl | rfl | rfl | rfl | rfl | rfl <;> rfl

end Sys2Proof.Machine
end

section
/-! The Timing Source: the tick, what `k` ticks make of an armed delay, and the operation `delay`
(41_timing_source.md R181, R184 to R186). -/

namespace Sys2Proof.Machine

theorem timerStep_stopped {s : State} (h : s.tmr.run = false) : timerStep s = s := by
  simp [timerStep, h]

theorem timerStep_running {s : State} (h : s.tmr.run = true) :
    timerStep s =
      { s with
        tmr := { s.tmr with
          cnt := s.tmr.cnt + 1#16
          matched := s.tmr.matched || s.tmr.cnt + 1#16 == s.tmr.target } } := by
  simp [timerStep, h]

/-- The last of `k + 1` ticks apart from those before it. -/
theorem ticks_succ (k : Nat) (s : State) : ticks (k + 1) s = timerStep (ticks k s) := by
  induction k generalizing s with
  | zero => rfl
  | succ k ih => rw [ticks, ih, ← ticks]

/-- The sticky match of a counter that goes from `k` to `k + 1` modulo 2^16. Before the match `n` is above `k`, so
the counter has not wrapped and reaches `n` exactly at `k + 1 = n`. -/
theorem matched_succ (n : Half) (k : Nat) :
    (decide (n.toNat ≤ k) || BitVec.ofNat 16 (k + 1) == n) = decide (n.toNat ≤ k + 1) := by
  by_cases hle : n.toNat ≤ k
  · simp [hle, Nat.le_succ_of_le hle]
  · have hreach : BitVec.ofNat 16 (k + 1) = n ↔ n.toNat ≤ k + 1 := by
      rw [← BitVec.toNat_inj, BitVec.toNat_ofNat]
      omega
    simp [hle, hreach, beq_eq_decide]

/-- The timer `k` ticks after a delay of `n` was armed: the counter shows `k` modulo 2^16. -/
theorem ticks_armDelay (n : Half) (k : Nat) (s : State) :
    ticks k (armDelay n s) =
      { s with
        tmr := { s.tmr with
          run := true
          cnt := BitVec.ofNat 16 k
          target := n
          matched := decide (n.toNat ≤ k) } } := by
  induction k with
  | zero =>
    have hzero : (n == 0#16) = decide (n.toNat ≤ 0) := by
      simp [beq_eq_decide, ← BitVec.toNat_inj]
    rw [ticks, armDelay, hzero]
  | succ k ih =>
    rw [ticks_succ, ih, timerStep_running rfl, ← matched_succ, BitVec.ofNat_add]

/-- Settles O37: by the state of the timer after `k` ticks. -/
theorem delayMatchesAtItsTarget : Obligations.DelayMatchesAtItsTarget := fun n k s =>
  congrArg (fun t : State => t.tmr.matched) (ticks_armDelay n k s)

/-- Settles O36: by whether the timer runs. -/
theorem timerTicks : Obligations.TimerTicks := fun s =>
  ⟨timerStep_stopped, fun h => ⟨s.tmr.cnt + 1#16, BitVec.toNat_add _ _, timerStep_running h⟩⟩

theorem seqLine_delayArm {checks : Bool} {s : State} (h : s.seq.pos = .delayArm) :
    seqLine checks s = (armDelay s.seq.n s).goto .delayDisarm := by
  simp only [seqLine, h]

theorem seqLine_delayDisarm {checks : Bool} {s : State} (h : s.seq.pos = .delayDisarm) :
    seqLine checks s = if s.tmr.matched then finishVoid (disarmDelay s) else s := by
  simp only [seqLine, h]

/-- Settles O38: the two lines of the delay, the second without and with the match. -/
theorem delayOperationArmsWaitsAndEnds : Obligations.DelayOperationArmsWaitsAndEnds := by
  intro checks s hbusy
  rw [sequencerStep_busy checks s hbusy]
  refine ⟨fun harm => ?_, fun hdisarm hwait => ?_, fun hdisarm hmatch => ?_⟩
  · exact seqLine_delayArm harm
  · rw [seqLine_delayDisarm hdisarm, hwait]
    rfl
  · rw [seqLine_delayDisarm hdisarm, hmatch]
    rfl

end Sys2Proof.Machine
end

section
/-! The configuration: the divisors of the bus clock, and the lines of `init` (42_configuration.md R201 to R207). -/

namespace Sys2Proof.Machine

/-! ### The divisors of the bus clock -/

theorem divisorOf_pos (bitrate : Byte) (ps : BitVec 2) : 0 < Config.divisorOf bitrate ps := by
  simp only [Config.divisorOf]
  omega

/-- The divisor is largest at the largest BITRATE and prescaler. -/
theorem divisorOf_le (bitrate : Byte) (ps : BitVec 2) : Config.divisorOf bitrate ps ≤ 32656 := by
  have hbitrate : 2 * bitrate.toNat ≤ 2 * 255 := Nat.mul_le_mul_left 2 (Nat.le_of_lt_succ bitrate.isLt)
  have hscale : 4 ^ ps.toNat ≤ 4 ^ 3 := Nat.pow_le_pow_right (by decide) (Nat.le_of_lt_succ ps.isLt)
  calc Config.divisorOf bitrate ps
      ≤ 16 + 2 * 255 * 4 ^ 3 := Nat.add_le_add_left (Nat.mul_le_mul hbitrate hscale) 16
    _ = 32656 := rfl

/-- Settles O40: the values by evaluation, the bounds for every BITRATE and prescaler. -/
theorem busClockDivisors : Obligations.BusClockDivisors :=
  ⟨fun ps => by simp [Config.divisorOf], rfl, rfl, rfl, rfl,
    fun bitrate ps => ⟨(divisorOf_pos bitrate ps).ne', divisorOf_le bitrate ps⟩⟩

/-! ### The normalised prescaler -/

/-- The two low bits of the byte that `init` writes to STATUS are the argument modulo 4 (42_configuration.md R203). -/
theorem prescalerByte_ps_toNat (b : Byte) : ((prescalerByte b).extractLsb' 0 2).toNat = b.toNat % 4 := by
  have hmask : b.toNat &&& 3 = b.toNat % 4 := Nat.and_two_pow_sub_one_eq_mod b.toNat 2
  simp [prescalerByte, hmask]

/-- The byte does not ask for ERR to be cleared (40_register_interface.md R144). -/
theorem prescalerByte_bit2 (b : Byte) : (prescalerByte b).getLsbD 2 = false := by
  simp [prescalerByte]

/-- The STATUS write of `init`, where it is accepted, sets PS alone. -/
theorem writeStatus_prescalerByte {s : State} (b : Byte) (hnone : s.eng.pending = none) :
    writeStatus (prescalerByte b) s =
      { s with eng := { s.eng with ps := (prescalerByte b).extractLsb' 0 2 } } := by
  rw [writeStatus, unlessPending_free _ _ _ _ hnone, prescalerByte_bit2]
  rfl

/-! ### The lines of `init` -/

section Lines

variable {checks : Bool} {s : State}

theorem seqLine_initBitrate (h : s.seq.pos = .initBitrate) :
    seqLine checks s = (writeBitrate s.seq.a s).goto .initStatus := by
  simp only [seqLine, h]

theorem seqLine_initStatus (h : s.seq.pos = .initStatus) :
    seqLine checks s = (writeStatus (prescalerByte s.seq.b) s).goto .initTicks := by
  simp only [seqLine, h]

theorem seqLine_initTicks (h : s.seq.pos = .initTicks) :
    seqLine checks s = State.goto .initRetries { s with cfg := { s.cfg with ticks := s.seq.n } } := by
  simp only [seqLine, h]

theorem seqLine_initRetries (h : s.seq.pos = .initRetries) :
    seqLine checks s = State.goto .initArm { s with cfg := { s.cfg with retries := s.seq.m } } := by
  simp only [seqLine, h]

theorem seqLine_initArm (h : s.seq.pos = .initArm) :
    seqLine checks s = (armDelay Config.settleTicks s).goto .initDisarm := by
  simp only [seqLine, h]

theorem seqLine_initDisarm (h : s.seq.pos = .initDisarm) :
    seqLine checks s = if s.tmr.matched then finishVoid (disarmDelay s) else s := by
  simp only [seqLine, h]

/-- Where no other agent moves, a run of an operation's lines is its first line and the run of the others. -/
theorem lines_succ_of_busy (n : Nat) (hbusy : s.seq.busy = true) :
    lines 0 (n + 1) s = lines 0 n (seqLine Config.writeChecksStart s) :=
  congrArg (lines 0 n) (sequencerStep_busy Config.writeChecksStart s hbusy)

/-- The two engine writes of `init`, each of which a pending command can refuse. -/
theorem lines_initBitrate (n : Nat) (hbusy : s.seq.busy = true) (hpos : s.seq.pos = .initBitrate) :
    lines 0 (n + 2) s =
      lines 0 n ((writeStatus (prescalerByte s.seq.b) ((writeBitrate s.seq.a s).goto .initStatus)).goto
        .initTicks) := by
  rw [lines_succ_of_busy (n + 1) hbusy, seqLine_initBitrate hpos,
    lines_succ_of_busy n (by simpa using hbusy), seqLine_initStatus (goto_seq_pos ..), goto_seq_b,
    writeBitrate_seq]

/-- The lines after the two engine writes: they store the configuration and arm the settle delay, whatever the
engine does. -/
theorem lines_initTicks (hbusy : s.seq.busy = true) (hpos : s.seq.pos = .initTicks) :
    lines 0 3 s =
      (armDelay Config.settleTicks { s with cfg := ⟨s.seq.n, s.seq.m⟩ }).goto .initDisarm := by
  rw [lines_succ_of_busy 2 hbusy, seqLine_initTicks hpos,
    lines_succ_of_busy 1 (by exact hbusy), seqLine_initRetries rfl,
    lines_succ_of_busy 0 (by exact hbusy), seqLine_initArm rfl]
  rfl

end Lines

/-- The first five lines of `init` with no command pending: both engine writes are accepted. -/
theorem lines_init_free {s : State} (hbusy : s.seq.busy = true) (hpos : s.seq.pos = .initBitrate)
    (hnone : s.eng.pending = none) :
    lines 0 5 s =
      (armDelay Config.settleTicks
        { s with
          eng := { s.eng with bitrate := s.seq.a, ps := (prescalerByte s.seq.b).extractLsb' 0 2 }
          cfg := ⟨s.seq.n, s.seq.m⟩ }).goto .initDisarm := by
  rw [lines_initBitrate 3 hbusy hpos, writeBitrate, unlessPending_free _ _ _ _ hnone,
    writeStatus_prescalerByte _ (by exact hnone), lines_initTicks (by exact hbusy) rfl]
  rfl

/-- The same with a command pending: both engine writes are refused (60_exceptions.md R345). -/
theorem lines_init_pending {s : State} (hbusy : s.seq.busy = true) (hpos : s.seq.pos = .initBitrate)
    (hpending : s.eng.pending ≠ none) :
    lines 0 5 s =
      (armDelay Config.settleTicks
        { (s.raise .engineBusy offBitrate s.seq.a).raise .engineBusy offStatus (prescalerByte s.seq.b) with
          cfg := ⟨s.seq.n, s.seq.m⟩ }).goto .initDisarm := by
  obtain ⟨c, hc⟩ := Option.ne_none_iff_exists'.mp hpending
  rw [lines_initBitrate 3 hbusy hpos, writeBitrate, unlessPending_pending _ _ _ _ c hc,
    writeStatus, unlessPending_pending _ _ _ _ c (by exact hc), lines_initTicks (by exact hbusy) rfl]
  rfl

/-- Settles O39: the first five lines by whether a command is pending, the last line without and with the match. -/
theorem initWritesTheConfiguration : Obligations.InitWritesTheConfiguration := by
  intro s hbusy
  refine ⟨fun hpos hnone => ?_, fun hpos hpending => ?_, fun checks hpos => ?_⟩
  · exact ⟨_, prescalerByte_ps_toNat s.seq.b, lines_init_free hbusy hpos hnone⟩
  · rw [lines_init_pending hbusy hpos hpending]
    simp [State.raise, State.goto, armDelay, offBitrate, offStatus, prescalerByte]
  · rw [sequencerStep_busy checks s hbusy, seqLine_initDisarm hpos]
    exact ⟨fun hwait => if_neg (by simp [hwait]), fun hmatch => if_pos hmatch⟩

end Sys2Proof.Machine
end

section
/-! What a step can do to the phase, to ERR and to the two histories (10_state.md R33; 43_bus_primitives.md R221,
R223). -/

namespace Sys2Proof.Machine

/-- The moves of the agents other than the engine, by what they do to the phase, to ERR and to the histories. -/
inductive BusMove (x : EngineRecords) : EngineRecords → Prop where
  /-- A refused write (60_exceptions.md R344). -/
  | refuse (f : FaultRecord) : BusMove x ⟨{ x.eng with err := true }, x.events, x.faults ++ [f]⟩
  /-- The phase stays, and no event is emitted. -/
  | stay (e : Eng) (phase : e.phase = x.eng.phase) (err : e.err = true → x.eng.err = true) :
      BusMove x ⟨e, x.events, x.faults⟩
  /-- The phase becomes IDLE, the last event being one that gives up the bus. -/
  | leave (e : Eng) (es : List Event) (ev : Event) (phase : e.phase = .idle) (err : e.err = true → x.eng.err = true)
      (gives : ownsAfter true ev = false) : BusMove x ⟨e, x.events ++ (es ++ [ev]), x.faults⟩

theorem BusMove.keep (x : EngineRecords) : BusMove x x := .stay x.eng rfl id

theorem BusMove.of_stay {s t : State} (phase : t.eng.phase = s.eng.phase) (err : t.eng.err = s.eng.err)
    (events : t.events = s.events) (faults : t.faults = s.faults) : BusMove s.records t.records := by
  have hrecords : t.records = ⟨t.eng, s.events, s.faults⟩ := by rw [← events, ← faults]; rfl
  exact hrecords ▸ .stay t.eng phase err.le

theorem BusMove.of_leave {s t : State} (es : List Event) {ev : Event} (gives : ownsAfter true ev = false)
    (phase : t.eng.phase = .idle) (err : t.eng.err = true → s.eng.err = true)
    (events : t.events = s.events ++ (es ++ [ev])) (faults : t.faults = s.faults) : BusMove s.records t.records := by
  have hrecords : t.records = ⟨t.eng, s.events ++ (es ++ [ev]), s.faults⟩ := by rw [← events, ← faults]; rfl
  exact hrecords ▸ .leave t.eng es ev phase err gives

/-- Leaving the bus is no move of it where it is not owned (43_bus_primitives.md R227, R233). -/
theorem BusMove.of_leave_if_owned {s t : State} {ev : Event} (gives : ownsAfter true ev = false)
    (phase : t.eng.phase = .idle) (err : t.eng.err = s.eng.err)
    (events : t.events = if s.eng.phase = .idle then s.events else s.events ++ [ev])
    (faults : t.faults = s.faults) : BusMove s.records t.records := by
  by_cases hidle : s.eng.phase = .idle
  · exact .of_stay (phase.trans hidle.symm) err (events.trans (if_pos hidle)) faults
  · exact .of_leave [] gives phase err.le (events.trans (if_neg hidle)) faults

/-- A write that ENGINE_BUSY can refuse moves as the write does where no command is pending. -/
theorem unlessPending_busMove {off : Offset} {v : Byte} {f : State → State} {s : State}
    (h : BusMove s.records (f s).records) : BusMove s.records (unlessPending off v f s).records := by
  unfold unlessPending
  split_ifs
  · exact .refuse _
  · exact h

/-- A TRANSFER emits nothing and stays in its phase (43_bus_primitives.md R230). -/
theorem launchTransfer_frame (v : Byte) (s : State) :
    (launchTransfer v s).eng.phase = s.eng.phase ∧ (launchTransfer v s).eng.err = s.eng.err ∧
      (launchTransfer v s).events = s.events ∧ (launchTransfer v s).faults = s.faults := by
  cases hphase : s.eng.phase <;> simp [launchTransfer, hphase, launch_eq, cmdError_eq]

/-- A write of CTRL stays in its phase, or is a STOP or a disable, which leave an owned bus
(43_bus_primitives.md R225 to R234). -/
theorem writeCtrl_busMove (v : Byte) (s : State) : BusMove s.records (writeCtrl v s).records := by
  unfold writeCtrl
  cases ctrlClass v with
  | reservedLow => exact .refuse _
  | disable =>
    refine unlessPending_busMove ?_
    rw [disableEngine, leaveBus_eq]
    exact .of_leave_if_owned (ev := .release) rfl rfl rfl rfl rfl
  | latch => exact unlessPending_busMove (.of_stay rfl rfl rfl rfl)
  | transfer =>
    obtain ⟨phase, err, events, faults⟩ := launchTransfer_frame v (latchRate (storeCtrl v s))
    exact unlessPending_busMove (.of_stay phase err events faults)
  | stop =>
    cases running : s.eng.pending with
    | none =>
      simp only [ctrlStop_free _ _ running, stopCmd, leaveBus_eq]
      exact .of_leave_if_owned (ev := .stop) rfl rfl rfl rfl rfl
    | some c =>
      simp only [ctrlStop_pending _ _ _ running, abortStop_eq]
      exact .of_leave [.abort c] (ev := .stop) rfl rfl id rfl rfl
  | start => exact unlessPending_busMove (.of_stay rfl rfl rfl rfl)
  | reservedStasto => exact unlessPending_busMove (.refuse _)

theorem writeData_busMove (v : Byte) (s : State) : BusMove s.records (writeData v s).records :=
  unlessPending_busMove (.of_stay rfl rfl rfl rfl)

theorem writeBitrate_busMove (v : Byte) (s : State) : BusMove s.records (writeBitrate v s).records :=
  unlessPending_busMove (.of_stay rfl rfl rfl rfl)

/-- A write of STATUS can clear ERR, and never sets it (40_register_interface.md R144). -/
theorem writeStatus_busMove (v : Byte) (s : State) : BusMove s.records (writeStatus v s).records :=
  unlessPending_busMove <| .stay
    { s.eng with ps := v.extractLsb' 0 2, err := if v.getLsbD 2 then false else s.eng.err } rfl fun h => by
      dsimp only at h
      split_ifs at h
      exact h

theorem RegisterWrite.busMove {v : Byte} {f : State → State} (h : RegisterWrite v f) (s : State) :
    BusMove s.records (f s).records := by
  cases h with
  | ctrl => exact writeCtrl_busMove v s
  | status => exact writeStatus_busMove v s
  | data => exact writeData_busMove v s
  | bitrate => exact writeBitrate_busMove v s
  | tmrCtl | argument | ignored | operation => exact .keep _
  | reserved => exact .refuse _

theorem SequencerAccess.busMove {s u : State} (h : SequencerAccess s u) : BusMove s.records u.records := by
  cases h with
  | none | draw => exact .keep _
  | ctrl v => exact writeCtrl_busMove v s
  | data v => exact writeData_busMove v s
  | bitrate v => exact writeBitrate_busMove v s
  | status v => exact writeStatus_busMove v s

theorem exec_busMove {i : Instr} {s t : State} (h : exec i s = .next t) : BusMove s.records t.records := by
  rcases exec_cases i s with ⟨-, r, hr, hs⟩ | ⟨-, f, hf, hw⟩
  · obtain rfl : hostRead r = t := Host.Outcome.next.inj (hr.symm.trans h)
    have hkeep : (hostRead r).records = s.records := by
      rcases hs with hs | hs | ⟨-, hs⟩ <;> simp [State.records, hostRead, hs]
    exact hkeep ▸ .keep _
  · obtain rfl : hostWrite _ _ f s = t := Host.Outcome.next.inj (hw.symm.trans h)
    unfold hostWrite
    split_ifs
    · exact .refuse _
    · exact hf.busMove s

theorem sequencerStep_busMove (checks : Bool) (s : State) :
    BusMove s.records (sequencerStep checks s).records := by
  obtain ⟨u, hu, hview⟩ := sequencerStep_access checks s
  simp only [engineView, Prod.mk.injEq] at hview
  obtain ⟨heng, hevents, hfaults, -⟩ := hview
  have hrecords : (sequencerStep checks s).records = u.records := by simp only [State.records, heng, hevents, hfaults]
  exact hrecords ▸ hu.busMove

/-- The reset event gives up a bus that is owned or asked for (70_reset_and_hazards.md R370). -/
theorem resetEvent_busMove (s : State) : BusMove s.records (resetEvent s).records := by
  by_cases h : s.eng.phase ≠ .idle ∨ s.eng.pending.isSome
  · have hevents : (resetEvent s).events = s.events ++ ([] ++ [.release]) := by simp [resetEvent, h]
    exact .of_leave [] rfl rfl (fun herr => absurd herr Bool.false_ne_true) hevents rfl
  · have hevents : (resetEvent s).events = s.events := by simp only [resetEvent, if_neg h]
    have hidle : s.eng.phase = .idle := not_not.mp (not_or.mp h).1
    have hrecords : (resetEvent s).records = ⟨Eng.reset, s.events, s.faults⟩ := by rw [← hevents]; rfl
    exact hrecords ▸ .stay _ hidle.symm fun herr => absurd herr Bool.false_ne_true

/-- The completions that keep the bus, by the phase before, the command, the event and the phase after
(43_bus_primitives.md R226, R236; 44_byte_transfer.md R271, R273). -/
inductive Advances (p : Phase) : Cmd → Event → Phase → Prop where
  | start (k : StartKind) : Advances p (.start k) (.started k) .addr
  | addr (b : Byte) (r : TxAnswer) (kept : r ≠ .arbLost) :
      Advances p (.addrTx b) (.addr b r) (if b.getLsbD 0 then (if r = .ack then .mr else .mrHold) else .mt)
  | tx (b : Byte) (r : TxAnswer) (kept : r ≠ .arbLost) : Advances p (.dataTx b) (.tx b r) p
  | rxAck (v : Byte) : Advances p (.dataRx true) (.rx v .ack) .mr
  | rxNack (v : Byte) : Advances p (.dataRx false) (.rx v .nack) .mrHold

/-- `t` follows `s` by a completion that keeps the bus. -/
def AdvancesBus (s t : State) : Prop :=
  ∃ c ev, s.eng.pending = some c ∧ Advances s.eng.phase c ev t.eng.phase ∧ t.eng.err = s.eng.err ∧
    t.events = s.events ++ [ev] ∧ t.faults = s.faults

/-- A completion leaves ERR (10_state.md R33). -/
theorem completeCmd_err (c : Cmd) (s : State) : (completeCmd c s).eng.err = s.eng.err := by
  cases c with
  | start k => cases h : s.startAnswer <;> simp [completeCmd, completeStart, h]
  | addrTx b =>
    cases h : s.txAnswer <;> by_cases hb : b[0] = true <;>
      simp [completeCmd, completeAddr, loseArbitration, h, hb]
  | dataTx b => cases h : s.txAnswer <;> simp [completeCmd, completeTx, loseArbitration, h]
  | dataRx a => cases h : s.rxAnswer <;> cases a <;> simp [completeCmd, completeRx, loseArbitration, h]

/-- A completion keeps the bus, or gives it up with its event (43_bus_primitives.md R229, R237). -/
theorem completeCmd_bus (c : Cmd) (s : State) :
    ∃ ev, (completeCmd c s).events = s.events ++ [ev] ∧
      (Advances s.eng.phase c ev (completeCmd c s).eng.phase ∨
        ((completeCmd c s).eng.phase = .idle ∧ ownsAfter true ev = false)) := by
  cases c with
  | start k =>
    simp only [completeCmd, completeStart]
    cases s.startAnswer with
    | done => exact ⟨.started k, by simp, .inl (.start k)⟩
    | arbLost => exact ⟨.startFail k .arbLost, by simp, .inr ⟨rfl, rfl⟩⟩
    | busError => exact ⟨.startFail k .busError, by simp, .inr ⟨rfl, rfl⟩⟩
  | addrTx b =>
    simp only [completeCmd, completeAddr]
    cases s.txAnswer with
    | ack =>
      have advances : Advances s.eng.phase (.addrTx b) (.addr b .ack) (if b.getLsbD 0 then .mr else .mt) :=
        .addr b .ack nofun
      refine ⟨.addr b .ack, ?_, .inl ?_⟩ <;> dsimp only
      · split_ifs <;> simp
      · split_ifs at advances ⊢ <;> exact advances
    | nack =>
      have advances : Advances s.eng.phase (.addrTx b) (.addr b .nack) (if b.getLsbD 0 then .mrHold else .mt) :=
        .addr b .nack nofun
      refine ⟨.addr b .nack, ?_, .inl ?_⟩ <;> dsimp only
      · split_ifs <;> simp
      · split_ifs at advances ⊢ <;> exact advances
    | arbLost => exact ⟨.addr b .arbLost, by simp [loseArbitration], .inr ⟨rfl, rfl⟩⟩
  | dataTx b =>
    simp only [completeCmd, completeTx]
    cases s.txAnswer with
    | ack => exact ⟨.tx b .ack, by simp, .inl (by simpa using .tx b .ack nofun)⟩
    | nack => exact ⟨.tx b .nack, by simp, .inl (by simpa using .tx b .nack nofun)⟩
    | arbLost => exact ⟨.tx b .arbLost, by simp [loseArbitration], .inr ⟨rfl, rfl⟩⟩
  | dataRx a =>
    simp only [completeCmd, completeRx]
    cases s.rxAnswer with
    | byte v =>
      cases a with
      | true => exact ⟨.rx v .ack, by simp, .inl (.rxAck v)⟩
      | false => exact ⟨.rx v .nack, by simp, .inl (.rxNack v)⟩
    | arbLost => exact ⟨.rxLost a, by simp [loseArbitration], .inr ⟨rfl, rfl⟩⟩

theorem engineStep_bus (s : State) :
    BusMove s.records (engineStep s).records ∨ AdvancesBus s (engineStep s) := by
  rcases engineStep_cases s with ⟨-, h⟩ | ⟨c, running, h⟩ <;> rw [h]
  · exact .inl (.keep _)
  · obtain ⟨-, -, -, -, -, -, faults, -⟩ := completeCmd_frame c s
    obtain ⟨ev, events, advances | ⟨phase, gives⟩⟩ := completeCmd_bus c s
    · exact .inr ⟨c, ev, running, advances, completeCmd_err c s, events, faults⟩
    · exact .inl (.of_leave [] gives phase (completeCmd_err c s).le events faults)

/-- Every step moves the bus as its agent can; only the engine's completions advance it. -/
theorem step_bus {s t : State} (h : step s = .next t) :
    BusMove s.records t.records ∨ (s.turn = .engine ∧ AdvancesBus s t) := by
  have hturn : s.afterTurn.records = s.records := by simp [State.records]
  have haccess : s.afterTurn.afterAccess.records = s.records := by simp [State.records]
  rcases step_cases h with ⟨-, h⟩ | ⟨-, rfl⟩ | ⟨hengine, rfl⟩ | ⟨-, rfl⟩ | ⟨-, rfl⟩ | ⟨a, v, -, rfl⟩
  · exact .inl (haccess ▸ exec_busMove h)
  · exact .inl (hturn ▸ sequencerStep_busMove _ _)
  · rcases engineStep_bus s.afterTurn with hmove | hadvances
    · exact .inl (hturn ▸ hmove)
    · exact .inr ⟨hengine, by simpa [AdvancesBus] using hadvances⟩
  · have htick : (timerStep s.afterTurn).records = s.afterTurn.records := by unfold timerStep; split_ifs <;> rfl
    exact .inl ((htick.trans hturn) ▸ .keep _)
  · exact .inl (hturn ▸ resetEvent_busMove _)
  · exact .inl (hturn ▸ .keep _)

/-! ### The phase table -/

/-- Settles O55: a move in which the phase changes leaves the bus, or is a completion that the table names; with the
engine coherent, a receive that is acknowledged stays in MR. -/
theorem phaseChangesOnlyAsTheTableSays : Obligations.PhaseChangesOnlyAsTheTableSays := by
  intro s t hok h hne
  rcases step_bus h with hmove | ⟨hengine, c, ev, running, advances, -, events, -⟩
  · generalize hy : t.records = y at hmove
    cases hmove with
    | refuse => exact absurd (congrArg (·.eng.phase) hy) hne
    | stay e phase => exact absurd ((congrArg (·.eng.phase) hy).trans phase) hne
    | leave e es ev phase _ gives =>
      refine .inl ⟨(congrArg (·.eng.phase) hy).trans phase, ev, ?_, gives⟩
      have hevents : t.events = s.events ++ (es ++ [ev]) := congrArg (·.events) hy
      rw [hevents, ← List.append_assoc, List.getLast?_concat]
  · have fits := ((engineOk_iff s).mp hok).fitsPhase
    generalize hq : t.eng.phase = q at advances
    cases advances with
    | start k => exact .inr (.inl ⟨hengine, rfl, k, running, events⟩)
    | addr b r kept => exact .inr (.inr (.inl ⟨hengine, b, r, kept, running, events, rfl⟩))
    | tx => exact absurd hq hne
    | rxAck v =>
      have hmr : s.eng.phase = .mr := by simpa [running, pendingFits] using fits
      exact absurd (hq.trans hmr.symm) hne
    | rxNack v => exact .inr (.inr (.inr ⟨hengine, rfl, v, running, events⟩))

/-! ### Who owns the bus, and ERR -/

theorem busOwned_append (es fs : List Event) : busOwned (es ++ fs) = fs.foldl ownsAfter (busOwned es) :=
  List.foldl_append

/-- An event that gives up an owned bus leaves it not owned, whoever owned it before. -/
theorem ownsAfter_of_gives {ev : Event} (gives : ownsAfter true ev = false) (before : Bool) :
    ownsAfter before ev = false := by
  cases before with
  | true => exact gives
  | false =>
    cases ev with
    | started => exact absurd gives nofun
    | addr _ r | tx _ r => cases r <;> rfl
    | startFail | stop | release | rx | rxLost | abort => rfl

/-- `ownershipOk`, said of the records. -/
def EngineRecords.OwnershipOk (x : EngineRecords) : Prop := busOwned x.events = (x.eng.phase != .idle)

theorem ownershipOk_iff (s : State) : ownershipOk s = true ↔ s.records.OwnershipOk := beq_iff_eq

theorem BusMove.ownershipOk {x y : EngineRecords} (h : BusMove x y) (hx : x.OwnershipOk) : y.OwnershipOk := by
  cases h with
  | refuse => exact hx
  | stay e phase => exact hx.trans (by rw [phase])
  | leave e es ev phase _ gives =>
    have hnot : busOwned (x.events ++ (es ++ [ev])) = false := by
      rw [← List.append_assoc, busOwned_append]
      exact ownsAfter_of_gives gives _
    exact hnot.trans (by rw [phase]; rfl)

/-- A completion that keeps the bus is of a START, after which the bus is owned, or of a command that fits an owner
phase, and then so is the phase after it (43_bus_primitives.md R223). -/
theorem Advances.ownership {p q : Phase} {c : Cmd} {ev : Event} (h : Advances p c ev q)
    (fits : pendingFits (some c) p = true) : ownsAfter (p != .idle) ev = (q != .idle) := by
  cases h with
  | start => rfl
  | addr b r kept =>
    obtain rfl : p = .addr := by simpa [pendingFits] using fits
    cases r with
    | arbLost => exact absurd rfl kept
    | ack | nack => split_ifs <;> rfl
  | tx b r kept =>
    cases r with
    | arbLost => exact absurd rfl kept
    | ack | nack => rfl
  | rxAck | rxNack =>
    obtain rfl : p = .mr := by simpa [pendingFits] using fits
    rfl

theorem step_ownershipOk {s t : State} (h : step s = .next t) (heng : s.eng.Coherent)
    (hs : ownershipOk s = true) : ownershipOk t = true := by
  rw [ownershipOk_iff] at hs ⊢
  rcases step_bus h with hmove | ⟨-, c, ev, running, advances, -, events, -⟩
  · exact hmove.ownershipOk hs
  · calc busOwned t.events
        = ownsAfter (busOwned s.events) ev := by rw [events, busOwned_append]; rfl
      _ = ownsAfter (s.eng.phase != .idle) ev := congrArg (ownsAfter · ev) hs
      _ = (t.eng.phase != .idle) := advances.ownership (running ▸ heng.fitsPhase)

/-- `errorOk`, said of the records. -/
def EngineRecords.ErrorOk (x : EngineRecords) : Prop := x.eng.err = true → x.faults ≠ []

theorem errorOk_iff (s : State) : errorOk s = true ↔ s.records.ErrorOk := by
  simp [errorOk, EngineRecords.ErrorOk, State.records, imp_iff_not_or]

/-- Only a refused write sets ERR, and it is recorded. -/
theorem BusMove.errorOk {x y : EngineRecords} (h : BusMove x y) (hx : x.ErrorOk) : y.ErrorOk := by
  cases h with
  | refuse f => exact fun _ => List.append_ne_nil_of_right_ne_nil _ (List.cons_ne_nil f [])
  | stay _ _ err | leave _ _ _ _ err => exact fun h => hx (err h)

theorem step_errorOk {s t : State} (h : step s = .next t) (hs : errorOk s = true) : errorOk t = true := by
  rw [errorOk_iff] at hs ⊢
  rcases step_bus h with hmove | ⟨-, c, ev, -, -, err, -, faults⟩
  · exact hmove.errorOk hs
  · exact fun herr hnone => hs (err.symm.trans herr) (faults.symm.trans hnone)

end Sys2Proof.Machine
end

section
/-! What each agent keeps of the sequencer's place in its operation, and of the delay it waits for (10_state.md R44,
R47; 20_memory.md R77; 41_timing_source.md R184, R186). -/

namespace Sys2Proof.Machine

/-- The timer counts, and without a match its counter is below its target. -/
def Tmr.Counting (t : Tmr) : Prop := t.run = true ∧ (t.matched = true ∨ t.cnt < t.target)

/-- `sequencerOk` and `delayOk`, said of the fields. -/
structure State.InPlace (s : State) : Prop where
  busy : s.seq.busy = (s.seq.pos != .none)
  op : s.seq.pos = .none ∨ s.seq.op = opcOf s.seq.pos
  loop : insideLoop s.seq.pos = true → s.seq.i < s.seq.n
  delay : delayWaits s.seq.pos = true → s.tmr.Counting

theorem inPlace_iff (s : State) : s.InPlace ↔ sequencerOk s = true ∧ delayOk s = true := by
  simp only [sequencerOk, delayOk, Bool.and_eq_true, Bool.or_eq_true, beq_iff_eq, decide_eq_true_eq,
    Bool.not_eq_true', ← Bool.not_eq_true, ← imp_iff_not_or]
  exact ⟨fun ⟨busy, op, loop, delay⟩ => ⟨⟨⟨busy, op⟩, loop⟩, delay⟩,
    fun ⟨⟨⟨busy, op⟩, loop⟩, delay⟩ => ⟨busy, op, loop, delay⟩⟩

/-- A state in which no operation runs. -/
theorem State.InPlace.of_ended {s : State} (busy : s.seq.busy = false) (pos : s.seq.pos = .none) : s.InPlace where
  busy := by rw [busy, pos]; rfl
  op := .inl pos
  loop h := absurd (pos ▸ h) nofun
  delay h := absurd (pos ▸ h) nofun

theorem State.InPlace.pos_eq_none {s : State} (h : s.InPlace) (free : s.seq.busy = false) : s.seq.pos = .none := by
  simpa [free] using h.busy

/-- The sequencer, and what a delay looks at of the timer, stay. -/
theorem State.InPlace.of_same {s t : State} (h : s.InPlace) (seq : t.seq = s.seq)
    (delay : delayWaits s.seq.pos = true → s.tmr.Counting → t.tmr.Counting) : t.InPlace where
  busy := seq ▸ h.busy
  op := seq ▸ h.op
  loop hl := by rw [seq] at hl ⊢; exact h.loop hl
  delay hw := by rw [seq] at hw; exact delay hw (h.delay hw)

/-! ### The host, the timer, the engine and the reset input -/

/-- A write of a register leaves the sequencer, or starts an operation at its first line. -/
theorem RegisterWrite.inPlace {v : Byte} {f : State → State} (h : RegisterWrite v f) {s : State} (hs : s.InPlace)
    (free : s.seq.busy = false) : (f s).InPlace := by
  have same {t : State} (seq : t.seq = s.seq) : t.InPlace :=
    hs.of_same seq fun hw => absurd (hs.pos_eq_none free ▸ hw) nofun
  cases h with
  | ctrl => exact same (writeCtrl_seq v s)
  | status => exact same (writeStatus_seq v s)
  | data => exact same (writeData_seq v s)
  | bitrate => exact same (writeBitrate_seq v s)
  | tmrCtl | argument | ignored | reserved => exact same rfl
  | operation p hp ho hl hw =>
    exact ⟨(bne_iff_ne.mpr hp).symm, .inr ho.symm, fun h => absurd (hl.symm.trans h) nofun,
      fun h => absurd (hw.symm.trans h) nofun⟩

theorem exec_inPlace {i : Instr} {s t : State} (h : exec i s = .next t) (hs : s.InPlace) : t.InPlace := by
  rcases exec_cases i s with ⟨-, r, hr, hread⟩ | ⟨-, f, hf, hw⟩
  · obtain rfl : hostRead r = t := Host.Outcome.next.inj (hr.symm.trans h)
    rcases hread with hread | hread | ⟨-, hread⟩
    all_goals exact hs.of_same (by simp [hostRead, hread]) fun _ => by simp [hostRead, hread, Tmr.Counting]
  · obtain rfl : hostWrite _ _ f s = t := Host.Outcome.next.inj (hw.symm.trans h)
    cases hb : s.seq.busy with
    | true => exact hs.of_same (by simp [hb]) fun _ => by simp [hb]
    | false => exact hostWrite_free _ _ f s hb ▸ hf.inPlace hs hb

theorem engineStep_inPlace {s : State} (hs : s.InPlace) : (engineStep s).InPlace := by
  rcases engineStep_cases s with ⟨-, h⟩ | ⟨c, -, h⟩
  · exact h.symm ▸ hs
  · obtain ⟨htmr, -, -, -, hseq, -⟩ := completeCmd_frame c s
    exact hs.of_same (by simp [h, hseq]) fun _ hcount => by simpa [h, htmr] using hcount

/-- A tick takes a counter below its target to the target, where it matches, or to a value still below it. -/
theorem counting_tick {t : Tmr} (h : t.Counting) :
    Tmr.Counting { t with cnt := t.cnt + 1#16, matched := t.matched || t.cnt + 1#16 == t.target } := by
  obtain ⟨run, matched | below⟩ := h
  · exact ⟨run, .inl (by simp [matched])⟩
  · refine ⟨run, ?_⟩
    by_cases hreach : t.cnt + 1#16 = t.target
    · exact .inl (by simp [hreach])
    · exact .inr (by simp only; bv_omega)

theorem timerStep_inPlace {s : State} (hs : s.InPlace) : (timerStep s).InPlace := by
  cases run : s.tmr.run with
  | false => exact (timerStep_stopped run).symm ▸ hs
  | true =>
    rw [timerStep_running run]
    exact hs.of_same rfl fun _ => counting_tick

/-! ### The lines of the sequencer -/

/-- What a line of a procedure leaves of the sequencer: BUSY, the latched operation, the loop's index and length. -/
structure KeepsLoop (s t : State) : Prop where
  busy : t.seq.busy = s.seq.busy
  op : t.seq.op = s.seq.op
  i : t.seq.i = s.seq.i
  n : t.seq.n = s.seq.n

theorem KeepsLoop.of_seq {s t : State} (h : t.seq = s.seq) : KeepsLoop s t := by
  constructor <;> rw [h]

/-- `q` is a line of the operation of the line `p`, and inside a byte loop exactly if `p` is. -/
def SameOperation (p q : SeqPos) : Prop := q ≠ .none ∧ opcOf q = opcOf p ∧ insideLoop q = insideLoop p

/-- An operation runs to which the line `p` belongs, and the loop's index is right for it. -/
structure RunningAt (s : State) (p : SeqPos) : Prop where
  busy : s.seq.busy = true
  op : s.seq.op = opcOf p
  loop : insideLoop p = true → s.seq.i < s.seq.n

theorem State.InPlace.runningAt {s : State} {p : SeqPos} (hs : s.InPlace) (busy : s.seq.busy = true)
    (hp : s.seq.pos = p) : RunningAt s p where
  busy := busy
  op := hp ▸ hs.op.resolve_left (by simpa [busy] using hs.busy)
  loop := hp ▸ hs.loop

theorem RunningAt.goto_inPlace {s : State} {p : SeqPos} (h : RunningAt s p) (line : p ≠ .none)
    (delay : delayWaits p = true → s.tmr.Counting) : (s.goto p).InPlace where
  busy := h.busy.trans (bne_iff_ne.mpr line).symm
  op := .inr h.op
  loop := h.loop
  delay := delay

section Lines

variable {s : State} {p : SeqPos} (hrun : RunningAt s p)

include hrun

/-- The sequencer goes to another line of the operation. -/
theorem RunningAt.goto_line {t : State} {q : SeqPos} (keep : KeepsLoop s t) (same : SameOperation p q)
    (delay : delayWaits q = true → t.tmr.Counting) : (t.goto q).InPlace := by
  obtain ⟨line, opc, inside⟩ := same
  refine RunningAt.goto_inPlace ⟨keep.busy.trans hrun.busy, ?_, fun h => ?_⟩ line delay
  · rw [keep.op, hrun.op, opc]
  · rw [keep.i, keep.n]
    exact hrun.loop (inside ▸ h)

theorem RunningAt.keepOutcome_line {t : State} {q : SeqPos} (o : TransferOutcome) (keep : KeepsLoop s t)
    (same : SameOperation p q) (delay : delayWaits q = false) : (keepOutcome q o t).InPlace :=
  hrun.goto_line ⟨keep.busy, keep.op, keep.i, keep.n⟩ same fun h => absurd (delay.symm.trans h) nofun

/-- The loop test: the line inside is reached with the index below the length (20_memory.md R77). -/
theorem RunningAt.setIndex_line (i : Half) {inside close : SeqPos}
    (hinside : inside ≠ .none ∧ opcOf inside = opcOf p)
    (hclose : close ≠ .none ∧ opcOf close = opcOf p ∧ insideLoop close = false)
    (hdelay : delayWaits inside = false ∧ delayWaits close = false) : (setIndex i inside close s).InPlace := by
  unfold setIndex
  split_ifs with below
  · exact RunningAt.goto_inPlace ⟨hrun.busy, hrun.op.trans hinside.2.symm, fun _ => below⟩ hinside.1
      fun h => absurd (hdelay.1.symm.trans h) nofun
  · obtain ⟨line, opc, outside⟩ := hclose
    exact RunningAt.goto_inPlace ⟨hrun.busy, hrun.op.trans opc.symm, fun h => absurd (outside.symm.trans h) nofun⟩
      line fun h => absurd (hdelay.2.symm.trans h) nofun

end Lines

theorem finish_inPlace (o : TransferOutcome) (s : State) : (finish o s).InPlace := .of_ended rfl rfl

theorem closeFailed_inPlace (s : State) : (closeFailed s).InPlace := finish_inPlace _ _

theorem closeOk_inPlace (s : State) : (closeOk s).InPlace := finish_inPlace _ _

theorem armDelay_counting (n : Half) (s : State) : (armDelay n s).tmr.Counting := by
  refine ⟨rfl, ?_⟩
  by_cases hzero : n = 0#16
  · exact .inl (beq_iff_eq.mpr hzero)
  · exact .inr (by simp only [armDelay]; bv_omega)

/-- Every state that a procedure's line leads to keeps the loop, and at a line that waits for a delay the timer
counts. -/
def Flow.KeepsLoop {L : Type} (waits : L → Bool) (s : State) : Flow L → Prop
  | .wait => True
  | .line l t => Machine.KeepsLoop s t ∧ (waits l = true → t.tmr.Counting)
  | .ret _ t => Machine.KeepsLoop s t

theorem startCore_keepsLoop (a : Byte) (l : StartLine) (s : State) :
    (startCore a l s).KeepsLoop (fun _ => false) s := by
  cases l <;> dsimp only [startCore]
  case command | transmit => exact ⟨.of_seq (writeCtrl_seq _ s), nofun⟩
  case data => exact ⟨.of_seq (writeData_seq a s), nofun⟩
  case status | addrStatus =>
    split_ifs
    · exact ⟨⟨rfl, rfl, rfl, rfl⟩, nofun⟩
    · trivial
  case checkStart | checkAddr =>
    split_ifs
    · exact ⟨.of_seq rfl, nofun⟩
    · exact .of_seq rfl
  case returnOk => exact .of_seq rfl

theorem writeByteCore_keepsLoop (b : Byte) (l : ByteLine) (s : State) :
    (writeByteCore b l s).KeepsLoop (· == .disarm) s := by
  cases l <;> dsimp only [writeByteCore]
  case budget | spend => exact ⟨⟨rfl, rfl, rfl, rfl⟩, nofun⟩
  case data => exact ⟨.of_seq (writeData_seq b s), nofun⟩
  case transmit => exact ⟨.of_seq (writeCtrl_seq _ s), nofun⟩
  case status | disarm =>
    split_ifs
    · exact ⟨⟨rfl, rfl, rfl, rfl⟩, nofun⟩
    · trivial
  case checkAck | checkExhausted =>
    split_ifs
    · exact .of_seq rfl
    · exact ⟨.of_seq rfl, nofun⟩
  case arm => exact ⟨.of_seq rfl, fun _ => armDelay_counting _ s⟩

theorem readByteCore_keepsLoop (l : PollLine) (s : State) :
    (readByteCore l s).KeepsLoop (· == .disarm) s := by
  cases l <;> dsimp only [readByteCore]
  case budget | spend => exact ⟨⟨rfl, rfl, rfl, rfl⟩, nofun⟩
  case poll => split_ifs <;> exact ⟨⟨rfl, rfl, rfl, rfl⟩, nofun⟩
  case data =>
    have hkeep : Machine.KeepsLoop s (fetchData s) := by constructor <;> simp [fetchData]
    exact ⟨hkeep, nofun⟩
  case returnOk => exact .of_seq rfl
  case disarm =>
    split_ifs
    · exact ⟨.of_seq rfl, nofun⟩
    · trivial
  case checkExhausted =>
    split_ifs
    · exact .of_seq rfl
    · exact ⟨.of_seq rfl, nofun⟩
  case arm => exact ⟨.of_seq rfl, fun _ => armDelay_counting _ s⟩

/-- A call keeps the place in the operation, if its lines are the operation's and the step of the return keeps it. -/
theorem runCall_inPlace {L : Type} {f : Flow L} {waits : L → Bool} {s : State} {p : SeqPos} {wrap : L → SeqPos}
    {after : TransferOutcome → State → State} (hs : s.InPlace) (hrun : RunningAt s p) (hf : f.KeepsLoop waits s)
    (hwrap : ∀ l, SameOperation p (wrap l)) (hwaits : ∀ l, delayWaits (wrap l) = waits l)
    (hafter : ∀ o t, KeepsLoop s t → (after o t).InPlace) : (runCall f s wrap after).InPlace := by
  cases f with
  | wait => exact hs
  | line l t =>
    obtain ⟨keep, counting⟩ := hf
    exact hrun.goto_line keep (hwrap l) fun h => counting ((hwaits l).symm.trans h)
  | ret o t => exact hafter o t hf

theorem writeOpLine_inPlace (checks : Bool) {l : WriteLine} {s : State} (hs : s.InPlace)
    (hrun : RunningAt s (.write l)) : (writeOpLine checks l s).InPlace := by
  cases l with
  | start l =>
    exact runCall_inPlace hs hrun (startCore_keepsLoop _ l s) (fun _ => ⟨nofun, rfl, rfl⟩) (fun _ => rfl)
      fun o _ keep => hrun.keepOutcome_line o keep ⟨nofun, rfl, rfl⟩ rfl
  | byte l =>
    exact runCall_inPlace hs hrun (writeByteCore_keepsLoop _ l s) (fun _ => ⟨nofun, rfl, rfl⟩) (fun _ => rfl)
      fun o _ keep => hrun.keepOutcome_line o keep ⟨nofun, rfl, rfl⟩ rfl
  | checkStart | checkByte =>
    simp only [writeOpLine]
    split_ifs
    · exact closeFailed_inPlace s
    · exact hrun.goto_line (.of_seq rfl) ⟨nofun, rfl, rfl⟩ nofun
  | index | next => exact hrun.setIndex_line _ ⟨nofun, rfl⟩ ⟨nofun, rfl, rfl⟩ ⟨rfl, rfl⟩
  | fetch => exact hrun.goto_line ⟨rfl, rfl, rfl, rfl⟩ ⟨nofun, rfl, rfl⟩ nofun
  | close => exact closeOk_inPlace s

theorem readOpLine_inPlace {l : ReadLine} {s : State} (hs : s.InPlace) (hrun : RunningAt s (.read l)) :
    (readOpLine l s).InPlace := by
  cases l with
  | start l =>
    exact runCall_inPlace hs hrun (startCore_keepsLoop _ l s) (fun _ => ⟨nofun, rfl, rfl⟩) (fun _ => rfl)
      fun o _ keep => hrun.keepOutcome_line o keep ⟨nofun, rfl, rfl⟩ rfl
  | poll l =>
    exact runCall_inPlace hs hrun (readByteCore_keepsLoop l s) (fun _ => ⟨nofun, rfl, rfl⟩) (fun _ => rfl)
      fun o _ keep => hrun.keepOutcome_line o keep ⟨nofun, rfl, rfl⟩ rfl
  | checkStart | checkByte =>
    simp only [readOpLine]
    split_ifs
    · exact closeFailed_inPlace s
    · exact hrun.goto_line (.of_seq rfl) ⟨nofun, rfl, rfl⟩ nofun
  | index => exact hrun.setIndex_line _ ⟨nofun, rfl⟩ ⟨nofun, rfl, rfl⟩ ⟨rfl, rfl⟩
  | arm => exact hrun.goto_line (.of_seq (writeCtrl_seq _ s)) ⟨nofun, rfl, rfl⟩ nofun
  | store => exact hrun.goto_line (.of_seq rfl) ⟨nofun, rfl, rfl⟩ nofun
  | next =>
    simp only [readOpLine]
    split_ifs
    · exact hrun.setIndex_line _ ⟨nofun, rfl⟩ ⟨nofun, rfl, rfl⟩ ⟨rfl, rfl⟩
    · exact hs
  | close => exact closeOk_inPlace s

/-- Every line leads to a line of the same operation, or ends it. -/
theorem seqLine_inPlace (checks : Bool) {s : State} (hs : s.InPlace) (busy : s.seq.busy = true) :
    (seqLine checks s).InPlace := by
  unfold seqLine
  cases hp : s.seq.pos <;> have hrun := hs.runningAt busy hp
  case none => exact hs
  case initBitrate => exact hrun.goto_line (.of_seq (writeBitrate_seq _ s)) ⟨nofun, rfl, rfl⟩ nofun
  case initStatus => exact hrun.goto_line (.of_seq (writeStatus_seq _ s)) ⟨nofun, rfl, rfl⟩ nofun
  case initTicks | initRetries => exact hrun.goto_line (.of_seq rfl) ⟨nofun, rfl, rfl⟩ nofun
  case initArm | delayArm =>
    exact hrun.goto_line (.of_seq rfl) ⟨nofun, rfl, rfl⟩ fun _ => armDelay_counting _ s
  case initDisarm | delayDisarm =>
    dsimp only
    split_ifs
    · exact .of_ended rfl rfl
    · exact hs
  case stop | restart => exact .of_ended rfl rfl
  case start l =>
    exact runCall_inPlace hs hrun (startCore_keepsLoop _ l s) (fun _ => ⟨nofun, rfl, rfl⟩) (fun _ => rfl)
      fun o t _ => finish_inPlace o t
  case writeByte l =>
    exact runCall_inPlace hs hrun (writeByteCore_keepsLoop _ l s) (fun _ => ⟨nofun, rfl, rfl⟩) (fun _ => rfl)
      fun o t _ => finish_inPlace o t
  case readByte l =>
    exact runCall_inPlace hs hrun (readByteCore_keepsLoop l s) (fun _ => ⟨nofun, rfl, rfl⟩) (fun _ => rfl)
      fun o _ keep => hrun.keepOutcome_line o keep ⟨nofun, rfl, rfl⟩ rfl
  case readByteEnd => exact finish_inPlace _ _
  case write l => exact writeOpLine_inPlace checks hs hrun
  case read l => exact readOpLine_inPlace hs hrun

theorem sequencerStep_inPlace (checks : Bool) {s : State} (hs : s.InPlace) : (sequencerStep checks s).InPlace := by
  unfold sequencerStep
  split_ifs with busy
  · exact seqLine_inPlace checks hs busy
  · exact hs

/-- The sequencer keeps its place through a step of any agent. -/
theorem step_inPlace {s t : State} (h : step s = .next t) (hs : s.InPlace) : t.InPlace := by
  have hturn : s.afterTurn.InPlace := hs.of_same (by simp) fun _ => by simp
  rcases step_cases h with ⟨-, h⟩ | ⟨-, rfl⟩ | ⟨-, rfl⟩ | ⟨-, rfl⟩ | ⟨-, rfl⟩ | ⟨a, v, -, rfl⟩
  · exact exec_inPlace h (hturn.of_same (by simp) fun _ => by simp)
  · exact sequencerStep_inPlace _ hturn
  · exact engineStep_inPlace hturn
  · exact timerStep_inPlace hturn
  · exact .of_ended rfl rfl
  · exact hturn.of_same rfl fun _ => id

/-! ### BUF, and the coherent states -/

/-- A byte written to BUF keeps its canonical form, and nothing else touches it. -/
theorem step_bufWf {s t : State} (h : step s = .next t) (hs : Memory.wf s.buf = true) : Memory.wf t.buf = true := by
  have hturn : Memory.wf s.afterTurn.buf = true := (afterTurn_buf s).symm ▸ hs
  rcases step_cases h with ⟨-, h⟩ | ⟨-, rfl⟩ | ⟨-, rfl⟩ | ⟨-, rfl⟩ | ⟨-, rfl⟩ | ⟨a, v, -, rfl⟩
  · rwa [exec_keepsBuf h, afterAccess_buf]
  · rcases sequencerStep_buf_cases Config.writeChecksStart s.afterTurn with hkeep | ⟨-, -, hwrite⟩
    · rwa [hkeep]
    · rw [hwrite]
      exact memWrite_wf _ _ _ hturn
  · rwa [engineStep_keepsBuf]
  · rwa [timerStep_keepsBuf]
  · exact hturn
  · exact memWrite_wf _ a v hturn

theorem coherent_iff (s : State) :
    s.coherent = true ↔
      engineOk s = true ∧ ownershipOk s = true ∧ s.InPlace ∧ errorOk s = true ∧ Memory.wf s.buf = true := by
  simp only [State.coherent, Bool.and_eq_true, inPlace_iff]
  tauto

/-- Settles O57: each part of coherence is kept; who owns the bus needs the engine's part too. -/
theorem coherenceIsKeptByEveryStep : Obligations.CoherenceIsKeptByEveryStep := by
  intro s t hs h
  obtain ⟨engine, ownership, inPlace, error, buf⟩ := (coherent_iff s).mp hs
  exact (coherent_iff t).mpr
    ⟨engineStaysCoherent s t engine h, step_ownershipOk h ((engineOk_iff s).mp engine) ownership,
      step_inPlace h inPlace, step_errorOk h error, step_bufWf h buf⟩

end Sys2Proof.Machine
end

section
/-! The writes of CTRL by the class of their byte, and the operations that are one such write (43_bus_primitives.md R225
to R234, R251, R252). -/

namespace Sys2Proof.Machine

/-- The field store of a CTRL byte put together from its fields (40_register_interface.md R142). -/
theorem storeCtrl_ctrlByte (int ea sta sto sa en : Bool) (low : BitVec 2) (s : State) :
    storeCtrl (ctrlByte int ea sta sto sa en low) s =
      { s with eng := { s.eng with ctrl := ⟨s.eng.ctrl.int, ea, sta, sto, sa, en⟩ } } := by
  simp [storeCtrl]

/-- Everything a LATCH byte does with nothing pending (43_bus_primitives.md R232). -/
theorem ctrlLatch_free (int ea sta sto sa en : Bool) (low : BitVec 2) {s : State} (hnone : s.eng.pending = none) :
    ctrlLatch (ctrlByte int ea sta sto sa en low) s =
      { s with eng := { s.eng with ctrl := ⟨s.eng.ctrl.int, ea, sta, sto, sa, en⟩ } } := by
  rw [ctrlLatch, unlessPending_free _ _ _ _ hnone, storeCtrl_ctrlByte]

/-- Everything a STOP byte does with nothing pending (43_bus_primitives.md R227). -/
theorem ctrlStop_free_eq (int ea sta sto sa en : Bool) (low : BitVec 2) {s : State} (hnone : s.eng.pending = none) :
    ctrlStop (ctrlByte int ea sta sto sa en low) s =
      { s with
        eng := { s.eng with
          ctrl := ⟨false, ea, sta, false, sa, en⟩
          code := 0x1F#5
          phase := .idle
          divisor := 16 + 2 * s.eng.bitrate.toNat * 4 ^ s.eng.ps.toNat }
        events := if s.eng.phase = .idle then s.events else s.events ++ [.stop] } := by
  rw [ctrlStop_free _ _ hnone, storeCtrl_ctrlByte, stopCmd, leaveBus_eq]
  rfl

/-- Everything a STOP byte does to a pending command (43_bus_primitives.md R228). -/
theorem ctrlStop_pending_eq (int ea sta sto sa en : Bool) (low : BitVec 2) {c : Cmd} {s : State}
    (hpending : s.eng.pending = some c) :
    ctrlStop (ctrlByte int ea sta sto sa en low) s =
      { s with
        eng := { s.eng with
          ctrl := ⟨false, ea, sta, false, sa, en⟩
          code := 0x1F#5
          phase := .idle
          pending := none
          divisor := 16 + 2 * s.eng.bitrate.toNat * 4 ^ s.eng.ps.toNat
          data := if c = .dataRx true ∨ c = .dataRx false then .unspecified else s.eng.data }
        events := s.events ++ [.abort c, .stop] } := by
  rw [ctrlStop_pending _ _ _ hpending, abortStop_eq]
  rcases c with k | b | b | (_ | _) <;> simp [Config.divisorOf]

section Transfer

variable {v b : Byte} {s : State}

theorem launchTransfer_addr_holds (hphase : s.eng.phase = .addr) (hdata : s.eng.data = .holds b) :
    launchTransfer v s = launch (.addrTx b) s := by
  simp only [launchTransfer, hphase, readDrawn_of_holds s hdata]

theorem launchTransfer_addr_unspecified (hphase : s.eng.phase = .addr) (hdata : s.eng.data = .unspecified) :
    launchTransfer v s = launch (.addrTx (Config.freeByte s.env.draws)) s.drawn := by
  simp only [launchTransfer, hphase, readDrawn_of_unspecified s hdata, State.drawByte]

theorem launchTransfer_mt_holds (hphase : s.eng.phase = .mt) (hdata : s.eng.data = .holds b) :
    launchTransfer v s = launch (.dataTx b) s := by
  simp only [launchTransfer, hphase, readDrawn_of_holds s hdata]

theorem launchTransfer_mt_unspecified (hphase : s.eng.phase = .mt) (hdata : s.eng.data = .unspecified) :
    launchTransfer v s = launch (.dataTx (Config.freeByte s.env.draws)) s.drawn := by
  simp only [launchTransfer, hphase, readDrawn_of_unspecified s hdata, State.drawByte]

theorem launchTransfer_mr (hphase : s.eng.phase = .mr) :
    launchTransfer v s = launch (.dataRx (ackSelected v)) s := by
  simp only [launchTransfer, hphase]

theorem launchTransfer_cmdError (hphase : s.eng.phase = .idle ∨ s.eng.phase = .mrHold) :
    launchTransfer v s = cmdError s := by
  rcases hphase with hphase | hphase <;> simp only [launchTransfer, hphase]

end Transfer

/-- Everything a START byte does with nothing pending (43_bus_primitives.md R225). -/
theorem ctrlStart_free_eq (int ea sta sto sa en : Bool) (low : BitVec 2) {s : State} (hnone : s.eng.pending = none) :
    ctrlStart (ctrlByte int ea sta sto sa en low) s =
      { s with
        eng := { s.eng with
          ctrl := ⟨false, ea, sta, sto, sa, en⟩
          code := 0x1F#5
          pending := some (.start (startKind s))
          divisor := 16 + 2 * s.eng.bitrate.toNat * 4 ^ s.eng.ps.toNat } } := by
  rw [ctrlStart, unlessPending_free _ _ _ _ hnone, storeCtrl_ctrlByte]
  rfl

/-- Settles O19: RESERVED_LOW whatever is pending, RESERVED_STASTO by whether a command is. -/
theorem reservedCtrlBytesAreRefused : Obligations.ReservedCtrlBytesAreRefused := by
  intro int ea sta sto sa en s hfree
  constructor
  · intro x hx
    simp only [List.mem_cons, List.not_mem_nil, or_false] at hx
    rcases hx with rfl | rfl | rfl <;> exact exec_write_free rfl hfree rfl
  · by_cases hnone : s.eng.pending = none
    · rw [if_pos hnone]
      exact exec_write_accepted rfl hfree hnone rfl
    · rw [if_neg hnone]
      exact exec_write_refused rfl hfree hnone

/-- Settles O21: the fields are stored, and the engine leaves the bus with a Release. -/
theorem disableReleasesTheBus : Obligations.DisableReleasesTheBus := by
  intro int ea sta sto sa s hfree hnone
  refine exec_write_accepted rfl hfree hnone ?_
  rw [disableEngine, storeCtrl_ctrlByte, leaveBus_eq]

/-- Settles O22: the fields are stored. -/
theorem latchStoresTheFields : Obligations.LatchStoresTheFields := fun ea sta sto sa _ hfree hnone =>
  exec_write_free rfl hfree (ctrlLatch_free false ea sta sto sa true 0#2 hnone)

/-- Settles O23: by the phase, and where a byte is sent by whether DATA holds one. -/
theorem transferActsByPhase : Obligations.TransferActsByPhase := by
  intro ea sa s hfree hnone launched
  have hexec {t : State} (h : launchTransfer (ctrlByte true ea false false sa true 0#2)
      (latchRate (storeCtrl (ctrlByte true ea false false sa true 0#2) s)) = t) :
      exec (.wrCtrlTransfer ea sa) s = .next t := exec_write_accepted rfl hfree hnone h
  rw [storeCtrl_ctrlByte] at hexec
  have hack : ackSelected (ctrlByte true ea false false sa true 0#2) = (ea && sa) := by simp [ackSelected]
  refine ⟨fun b hdata => ⟨fun hphase => hexec ?_, fun hphase => hexec ?_⟩,
    fun hdata => ⟨fun hphase => hexec ?_, fun hphase => hexec ?_⟩, fun hphase => hexec ?_, fun hphase => hexec ?_⟩
  · exact (launchTransfer_addr_holds (by exact hphase) (by exact hdata)).trans rfl
  · exact (launchTransfer_mt_holds (by exact hphase) (by exact hdata)).trans rfl
  · exact (launchTransfer_addr_unspecified (by exact hphase) (by exact hdata)).trans rfl
  · exact (launchTransfer_mt_unspecified (by exact hphase) (by exact hdata)).trans rfl
  · exact (launchTransfer_mr (by exact hphase)).trans (hack ▸ rfl)
  · exact (launchTransfer_cmdError (by exact hphase)).trans rfl

/-- Settles O24: the STOP byte with nothing pending. -/
theorem stopReleasesTheBus : Obligations.StopReleasesTheBus := fun ea sa _ hfree hnone =>
  exec_write_free rfl hfree (ctrlStop_free_eq true ea false true sa true 0#2 hnone)

/-- Settles O25: the STOP byte while a command is pending. -/
theorem stopAbortsAPendingCommand : Obligations.StopAbortsAPendingCommand := fun ea sa _ _ hfree hpending =>
  exec_write_free rfl hfree (ctrlStop_pending_eq true ea false true sa true 0#2 hpending)

/-- Settles O26: the START byte with nothing pending. -/
theorem startLaunchesByPhase : Obligations.StartLaunchesByPhase := fun ea sa _ hfree hnone =>
  exec_write_free rfl hfree (ctrlStart_free_eq true ea true false sa true 0#2 hnone)

theorem seqLine_stop {checks : Bool} {s : State} (h : s.seq.pos = .stop) :
    seqLine checks s = finishVoid (ctrlStop cmdStop s) := by
  simp only [seqLine, h, writeCtrl_cmdStop]

theorem seqLine_restart {checks : Bool} {s : State} (h : s.seq.pos = .restart) :
    seqLine checks s = finishVoid (ctrlLatch cmdRestartArm s) := by
  simp only [seqLine, h, writeCtrl_cmdRestartArm]

/-- Settles O42: `stop` is the STOP byte, `restart` a LATCH byte, and either ends the operation. -/
theorem stopAndRestartAreOneStep : Obligations.StopAndRestartAreOneStep := by
  intro checks s hbusy
  have hstop : cmdStop = ctrlByte true false false true false true 0#2 := rfl
  have harm : cmdRestartArm = ctrlByte false false true false false true 0#2 := rfl
  rw [sequencerStep_busy checks s hbusy]
  refine ⟨fun hpos hnone => ?_, fun c hpos hpending => ?_, fun hpos hnone => ?_, fun hpos hpending => ?_⟩
  · rw [seqLine_stop hpos, hstop, ctrlStop_free_eq _ _ _ _ _ _ _ hnone]
    rfl
  · rw [seqLine_stop hpos, hstop, ctrlStop_pending_eq _ _ _ _ _ _ _ hpending]
    rfl
  · rw [seqLine_restart hpos, harm, ctrlLatch_free _ _ _ _ _ _ _ hnone]
    rfl
  · obtain ⟨c, hc⟩ := Option.ne_none_iff_exists'.mp hpending
    rw [seqLine_restart hpos, ctrlLatch, unlessPending_pending _ _ _ _ c hc]
    rfl

end Sys2Proof.Machine
end

section
/-! The completions of a START and of an address byte (43_bus_primitives.md R226, R229, R236, R237). -/

namespace Sys2Proof.Machine

theorem engineStep_of_pending {c : Cmd} {s : State} (h : s.eng.pending = some c) :
    engineStep s = ((completeCmd c s).setPending none).setInt true := by
  simp only [engineStep, h]

/-- Settles O31: by the answer, which the engine takes first. -/
theorem startCompletes : Obligations.StartCompletes := by
  intro k s hpending done
  rw [engineStep_of_pending hpending]
  refine ⟨fun h => ?_, fun h => ?_, fun h => ?_⟩ <;> simp only [completeCmd, completeStart, h]
  all_goals
    simp only [done]
    rw [← afterStart_eng s, ← afterStart_events s]
  · cases k <;> rfl
  · rfl
  · rfl

/-- Settles O32: by the answer and by the direction. -/
theorem addressByteCompletes : Obligations.AddressByteCompletes := by
  intro b s hpending done
  refine ⟨fun c hok hdata => ?_, ?_⟩
  · simpa [hpending, hdata, dataFits] using ((engineOk_iff s).mp hok).fitsData
  rw [engineStep_of_pending hpending]
  refine ⟨fun h hb => ?_, fun h hb => ?_, fun h hb => ?_, fun h hb => ?_, fun h => ?_⟩
  case refine_5 =>
    simp only [completeCmd, completeAddr, h, loseArbitration, done]
    rw [← afterTx_eng s, ← afterTx_events s]
    rfl
  all_goals
    simp only [completeCmd, completeAddr, h, hb, done]
    rw [← afterTx_eng s, ← afterTx_events s]
    rfl

end Sys2Proof.Machine
end

section
/-! The operation `start`, and the start of `write` and of `read`, line by line, with the engine completing each command
before the next line (43_bus_primitives.md R250; 45_transactions.md R310, R311). -/

namespace Sys2Proof.Machine

/-! ### Ticks and rounds -/

@[simp] theorem ticks_eng (k : Nat) (s : State) : (ticks k s).eng = s.eng := by rw [ticks_frame]
@[simp] theorem ticks_seq (k : Nat) (s : State) : (ticks k s).seq = s.seq := by rw [ticks_frame]
@[simp] theorem ticks_events (k : Nat) (s : State) : (ticks k s).events = s.events := by rw [ticks_frame]
@[simp] theorem ticks_faults (k : Nat) (s : State) : (ticks k s).faults = s.faults := by rw [ticks_frame]
@[simp] theorem ticks_env (k : Nat) (s : State) : (ticks k s).env = s.env := by rw [ticks_frame]

@[simp] theorem settle_seq (k : Nat) (s : State) : (settle k s).seq = s.seq := by
  rcases engineStep_cases (ticks k s) with ⟨-, h⟩ | ⟨c, -, h⟩
  · simp [settle, h]
  · obtain ⟨-, -, -, -, hseq, -⟩ := completeCmd_frame c (ticks k s)
    simp [settle, h, hseq]

theorem rounds_add (k m n : Nat) (s : State) : rounds k (m + n) s = rounds k n (rounds k m s) :=
  schedule_add (settle k) m n s

theorem rounds_one (k : Nat) {s : State} (hbusy : s.seq.busy = true) :
    rounds k 1 s = seqLine Config.writeChecksStart (settle k s) :=
  sequencerStep_busy _ _ (by rw [settle_seq, hbusy])

/-! ### What a completion leaves for the line that waits for it -/

/-- The event, the status code and the phase of a completion. -/
structure Completion where
  event : Event
  sc : Byte
  phase : Phase

/-- The completion of a START (43_bus_primitives.md R226). -/
def startCompletion (k : StartKind) : StartAnswer → Completion
  | .done => ⟨.started k, if k = .s then scStartTx else scRepStartTx, .addr⟩
  | .arbLost => ⟨.startFail k .arbLost, scArbLost, .idle⟩
  | .busError => ⟨.startFail k .busError, scBusError, .idle⟩

/-- The completion of an address byte (43_bus_primitives.md R236). -/
def addrCompletion (b : Byte) : TxAnswer → Completion
  | .ack =>
    ⟨.addr b .ack, if b.getLsbD 0 then scAddrRAck else scAddrWAck, if b.getLsbD 0 then .mr else .mt⟩
  | .nack =>
    ⟨.addr b .nack, if b.getLsbD 0 then scAddrRNack else scAddrWNack, if b.getLsbD 0 then .mrHold else .mt⟩
  | .arbLost => ⟨.addr b .arbLost, scArbLost, .idle⟩

/-- The engine made the completion `c` of the command that was pending in `s`, and left the answers `e`. -/
structure CompletedBy (c : Completion) (e : Env) (s t : State) : Prop where
  int : t.eng.ctrl.int = true
  sc : statusCode t = c.sc
  phase : t.eng.phase = c.phase
  pending : t.eng.pending = none
  events : t.events = s.events ++ [c.event]
  faults : t.faults = s.faults
  env : t.env = e

/-- The status code of the CODE that was set from it (10_state.md R32; 30_encoding.md R120). -/
theorem statusCode_of_code {s : State} {sc : Byte} (hsc : sc ∈ statusCodes)
    (hcode : s.eng.code = sc.extractLsb' 3 5) : statusCode s = sc := by
  have hcodes : ∀ sc ∈ statusCodes, (sc.extractLsb' 3 5 ++ 0#3 : Byte) = sc := by decide
  rw [statusCode_eq, hcode, hcodes sc hsc]

theorem startAnswer_of_given {s : State} {x : StartAnswer} {xs : List StartAnswer} (h : s.env.starts = x :: xs) :
    s.startAnswer = x ∧ s.afterStart.env = { s.env with starts := xs } := by
  simp [State.startAnswer, State.afterStart, h]

theorem txAnswer_of_given {s : State} {y : TxAnswer} {ys : List TxAnswer} (h : s.env.txs = y :: ys) :
    s.txAnswer = y ∧ s.afterTx.env = { s.env with txs := ys } := by
  simp [State.txAnswer, State.afterTx, h]

theorem engineStep_start {k : StartKind} {x : StartAnswer} {xs : List StartAnswer} {s : State}
    (hpending : s.eng.pending = some (.start k)) (hx : s.env.starts = x :: xs) :
    CompletedBy (startCompletion k x) { s.env with starts := xs } s (engineStep s) := by
  obtain ⟨hanswer, henv⟩ := startAnswer_of_given hx
  obtain ⟨hdone, harbLost, hbusError⟩ := startCompletes k s hpending
  cases x with
  | done =>
    rw [hdone hanswer]
    cases k <;> exact ⟨rfl, statusCode_of_code (by decide) rfl, rfl, rfl, rfl, afterStart_faults s, henv⟩
  | arbLost =>
    rw [harbLost hanswer]
    exact ⟨rfl, statusCode_of_code (sc := scArbLost) (by decide) rfl, rfl, rfl, rfl, afterStart_faults s, henv⟩
  | busError =>
    rw [hbusError hanswer]
    exact ⟨rfl, statusCode_of_code (sc := scBusError) (by decide) rfl, rfl, rfl, rfl, afterStart_faults s, henv⟩

theorem engineStep_addr {b : Byte} {y : TxAnswer} {ys : List TxAnswer} {s : State}
    (hpending : s.eng.pending = some (.addrTx b)) (hy : s.env.txs = y :: ys) :
    CompletedBy (addrCompletion b y) { s.env with txs := ys } s (engineStep s) := by
  obtain ⟨hanswer, henv⟩ := txAnswer_of_given hy
  obtain ⟨-, hwAck, hrAck, hwNack, hrNack, hlost⟩ := addressByteCompletes b s hpending
  cases y with
  | ack =>
    cases hb : b.getLsbD 0 with
    | false =>
      rw [hwAck hanswer hb, addrCompletion, hb]
      exact ⟨rfl, statusCode_of_code (sc := scAddrWAck) (by decide) rfl, rfl, rfl, rfl, afterTx_faults s, henv⟩
    | true =>
      rw [hrAck hanswer hb, addrCompletion, hb]
      exact ⟨rfl, statusCode_of_code (sc := scAddrRAck) (by decide) rfl, rfl, rfl, rfl, afterTx_faults s, henv⟩
  | nack =>
    cases hb : b.getLsbD 0 with
    | false =>
      rw [hwNack hanswer hb, addrCompletion, hb]
      exact ⟨rfl, statusCode_of_code (sc := scAddrWNack) (by decide) rfl, rfl, rfl, rfl, afterTx_faults s, henv⟩
    | true =>
      rw [hrNack hanswer hb, addrCompletion, hb]
      exact ⟨rfl, statusCode_of_code (sc := scAddrRNack) (by decide) rfl, rfl, rfl, rfl, afterTx_faults s, henv⟩
  | arbLost =>
    rw [hlost hanswer]
    exact ⟨rfl, statusCode_of_code (sc := scArbLost) (by decide) rfl, rfl, rfl, rfl, afterTx_faults s, henv⟩

/-! ### The lines of the start -/

/-- The lines `wrap l` run `start_core(b)`, and `after` is the step of its return, for an operation that latched the
arguments of `s`. -/
def CallsStart (b : Byte) (wrap : StartLine → SeqPos) (after : TransferOutcome → State → State) (s : State) : Prop :=
  ∀ (l : StartLine) (t : State), t.seq.a = s.seq.a → t.seq.pos = wrap l →
    seqLine Config.writeChecksStart t = runCall (startCore b l t) t wrap after

/-- The start that began in `s` stands at the line `l`: it emitted `es`, raised no fault, left the sequencer but for the
line and the status code read, and the engine and the answers still given are as the other arguments say. -/
structure StartAt (wrap : StartLine → SeqPos) (s : State) (l : StartLine) (es : List Event) (p : Phase)
    (c : Option Cmd) (e : Env) (t : State) : Prop where
  pos : t.seq.pos = wrap l
  seq : { t.seq with pos := s.seq.pos, sc := s.seq.sc } = s.seq
  events : t.events = s.events ++ es
  faults : t.faults = s.faults
  phase : t.eng.phase = p
  pending : t.eng.pending = c
  env : t.env = e

section Lines

variable {k : Nat} {b : Byte} {wrap : StartLine → SeqPos} {after : TransferOutcome → State → State} {s t : State}
  {l : StartLine} {es : List Event} {p : Phase} {c : Option Cmd} {e : Env}

/-- A round executes the line of `start_core` after the ticks and the completion. -/
theorem StartAt.round (h : StartAt wrap s l es p c e t) (hcall : CallsStart b wrap after s)
    (hbusy : s.seq.busy = true) :
    rounds k 1 t = runCall (startCore b l (settle k t)) (settle k t) wrap after := by
  have ha : t.seq.a = s.seq.a := (congrArg Seq.a h.seq :)
  have hb : t.seq.busy = true := (congrArg Seq.busy h.seq :).trans hbusy
  rw [rounds_one k hb]
  exact hcall l _ (by rw [settle_seq, ha]) (by rw [settle_seq, h.pos])

/-- Ticks leave the start where it stands. -/
theorem StartAt.ticks (h : StartAt wrap s l es p c e t) (k : Nat) : StartAt wrap s l es p c e (Machine.ticks k t) :=
  ⟨by simpa using h.pos, by simpa using h.seq, by simpa using h.events, by simpa using h.faults,
    by simpa using h.phase, by simpa using h.pending, by simpa using h.env⟩

/-- With nothing pending a round is the line after the ticks. -/
theorem StartAt.round_free (h : StartAt wrap s l es p none e t) (hcall : CallsStart b wrap after s)
    (hbusy : s.seq.busy = true) :
    rounds k 1 t = runCall (startCore b l (Machine.ticks k t)) (Machine.ticks k t) wrap after := by
  rw [h.round hcall hbusy, settle_free k t h.pending]

/-- The line `command` launches the START of the phase. -/
theorem StartAt.command (h : StartAt wrap s .command es p none e t) (hcall : CallsStart b wrap after s)
    (hbusy : s.seq.busy = true) :
    StartAt wrap s .status es p (some (.start (if p = .idle then .s else .sr))) e (rounds k 1 t) := by
  have hu := h.ticks k
  rw [h.round_free hcall hbusy, startCore, runCall_line, writeCtrl_cmdStart,
    show cmdStart = ctrlByte true false true false false true 0#2 from rfl, ctrlStart_free_eq _ _ _ _ _ _ _ hu.pending]
  exact ⟨rfl, hu.seq, hu.events, hu.faults, hu.phase, by rw [← hu.phase]; rfl, hu.env⟩

/-- A line that waits for a completion reads its status code and goes on. -/
theorem StartAt.polled {l' : StartLine} {d : Completion} {e' : Env} (h : StartAt wrap s l es p c e t)
    (hcall : CallsStart b wrap after s) (hbusy : s.seq.busy = true)
    (hline : ∀ u : State, u.eng.ctrl.int = true → startCore b l u = .line l' (pollStatus u))
    (hdone : CompletedBy d e' (Machine.ticks k t) (settle k t)) :
    StartAt wrap s l' (es ++ [d.event]) d.phase none e' (rounds k 1 t) ∧ (rounds k 1 t).seq.sc = d.sc := by
  have hu := h.ticks k
  rw [h.round hcall hbusy, hline _ hdone.int, runCall_line]
  refine ⟨⟨rfl, ?_, ?_, hdone.faults.trans hu.faults, hdone.phase, hdone.pending, hdone.env⟩, hdone.sc⟩
  · simpa [pollStatus] using h.seq
  · exact hdone.events.trans (by rw [hu.events, List.append_assoc])

/-- The line `status` waits for the completion of the START. -/
theorem StartAt.status {kind : StartKind} {x : StartAnswer} {xs : List StartAnswer}
    (h : StartAt wrap s .status es p (some (.start kind)) e t) (hcall : CallsStart b wrap after s)
    (hbusy : s.seq.busy = true) (hx : e.starts = x :: xs) :
    StartAt wrap s .checkStart (es ++ [(startCompletion kind x).event]) (startCompletion kind x).phase none
        { e with starts := xs } (rounds k 1 t) ∧
      (rounds k 1 t).seq.sc = (startCompletion kind x).sc := by
  obtain rfl := h.env
  have hdone := engineStep_start (s := Machine.ticks k t) (h.ticks k).pending (by rw [ticks_env, hx])
  rw [ticks_env] at hdone
  exact h.polled hcall hbusy (fun u hint => by rw [startCore, if_pos hint]) hdone

/-- The line `addrStatus` waits for the completion of the address byte. -/
theorem StartAt.addrStatus {y : TxAnswer} {ys : List TxAnswer}
    (h : StartAt wrap s .addrStatus es p (some (.addrTx b)) e t) (hcall : CallsStart b wrap after s)
    (hbusy : s.seq.busy = true) (hy : e.txs = y :: ys) :
    StartAt wrap s .checkAddr (es ++ [(addrCompletion b y).event]) (addrCompletion b y).phase none
        { e with txs := ys } (rounds k 1 t) ∧
      (rounds k 1 t).seq.sc = (addrCompletion b y).sc := by
  obtain rfl := h.env
  have hdone := engineStep_addr (s := Machine.ticks k t) (h.ticks k).pending (by rw [ticks_env, hy])
  rw [ticks_env] at hdone
  exact h.polled hcall hbusy (fun u hint => by rw [startCore, if_pos hint]) hdone

/-- A status code that is no START_OK ends the start without another command. -/
theorem StartAt.checkStart_failed (h : StartAt wrap s .checkStart es p none e t) (hcall : CallsStart b wrap after s)
    (hbusy : s.seq.busy = true) (hsc : startOk t.seq.sc = false) :
    rounds k 1 t = after .failedStart (Machine.ticks k t) := by
  rw [h.round_free hcall hbusy, startCore, ticks_seq, hsc]
  rfl

/-- The lines from the START to the pending address byte: the check of the START, the write of DATA, the TRANSFER. -/
theorem StartAt.sendAddress (h : StartAt wrap s .checkStart es .addr none e t) (hcall : CallsStart b wrap after s)
    (hbusy : s.seq.busy = true) (hsc : startOk t.seq.sc = true) :
    StartAt wrap s .addrStatus es .addr (some (.addrTx b)) e (rounds k 3 t) := by
  have hdata : StartAt wrap s .data es .addr none e (rounds k 1 t) := by
    have hu := h.ticks k
    rw [h.round_free hcall hbusy, startCore, ticks_seq, hsc]
    exact ⟨rfl, hu.seq, hu.events, hu.faults, hu.phase, hu.pending, hu.env⟩
  have htransmit : StartAt wrap s .transmit es .addr none e (rounds k 2 t) ∧ (rounds k 2 t).eng.data = .holds b := by
    have hu := hdata.ticks k
    rw [rounds_add k 1 1, hdata.round_free hcall hbusy, startCore, runCall_line, writeData,
      unlessPending_free _ _ _ _ hu.pending]
    exact ⟨⟨rfl, hu.seq, hu.events, hu.faults, hu.phase, hu.pending, hu.env⟩, rfl⟩
  obtain ⟨hat, hholds⟩ := htransmit
  have hu := hat.ticks k
  rw [rounds_add k 2 1, hat.round_free hcall hbusy, startCore, runCall_line, writeCtrl_cmdTransmit, ctrlTransfer,
    unlessPending_free _ _ _ _ hu.pending, launchTransfer_addr_holds (by exact hu.phase) (b := b)
      (by rw [latchRate_eng_data, storeCtrl_eng_data, ticks_eng, hholds])]
  exact ⟨rfl, hu.seq, hu.events, hu.faults, hu.phase, rfl, hu.env⟩

/-- An address byte that was not acknowledged ends the start. -/
theorem StartAt.checkAddr_failed (h : StartAt wrap s .checkAddr es p none e t) (hcall : CallsStart b wrap after s)
    (hbusy : s.seq.busy = true) (hsc : addrAck t.seq.sc = false) :
    rounds k 1 t = after .noAck (Machine.ticks k t) := by
  rw [h.round_free hcall hbusy, startCore, ticks_seq, hsc]
  rfl

/-- After an acknowledged address byte the last line returns. -/
theorem StartAt.checkAddr_ok (h : StartAt wrap s .checkAddr es p none e t) (hcall : CallsStart b wrap after s)
    (hbusy : s.seq.busy = true) (hsc : addrAck t.seq.sc = true) :
    ∃ u, StartAt wrap s .returnOk es p none e u ∧ rounds k 2 t = after .ok u := by
  have hreturn : StartAt wrap s .returnOk es p none e (rounds k 1 t) := by
    have hu := h.ticks k
    rw [h.round_free hcall hbusy, startCore, ticks_seq, hsc]
    exact ⟨rfl, hu.seq, hu.events, hu.faults, hu.phase, hu.pending, hu.env⟩
  refine ⟨_, hreturn.ticks k, ?_⟩
  rw [rounds_add k 1 1, hreturn.round_free hcall hbusy]
  rfl

end Lines

/-! ### The whole start -/

theorem startOk_startCompletion (kind : StartKind) (x : StartAnswer) :
    startOk (startCompletion kind x).sc = (x == .done) := by
  cases x <;> cases kind <;> rfl

theorem addrAck_addrCompletion (b : Byte) (y : TxAnswer) : addrAck (addrCompletion b y).sc = (y == .ack) := by
  cases y <;> simp only [addrCompletion] <;> cases b.getLsbD 0 <;> rfl

/-- What an operation stands at, in `u`, when the start that began in `s` has returned `o`, with the events, the phase
and the fault list. -/
def StartReturned (s u : State) (o : TransferOutcome) (es : List Event) (p : Phase) : Prop :=
  (s.seq.pos = .start .command → u.seq.busy = false ∧ u.seq.outcome = o) ∧
    (s.seq.pos = .write (.start .command) → u.seq.busy = true ∧ u.seq.pos = .write .checkStart ∧ u.seq.o = o) ∧
    (s.seq.pos = .read (.start .command) → u.seq.busy = true ∧ u.seq.pos = .read .checkStart ∧ u.seq.o = o) ∧
    u.events = s.events ++ es ∧ u.eng.phase = p ∧ u.eng.pending = none ∧ u.faults = s.faults

/-- The return of the start does what `StartReturned` says. -/
def ReturnsStart (wrap : StartLine → SeqPos) (after : TransferOutcome → State → State) (s : State) : Prop :=
  ∀ {l : StartLine} {es : List Event} {p : Phase} {e : Env} {u : State} (o : TransferOutcome),
    StartAt wrap s l es p none e u → StartReturned s (after o u) o es p

section Start

variable {b : Byte} {wrap : StartLine → SeqPos} {after : TransferOutcome → State → State} {s : State}
  {x : StartAnswer} {xs : List StartAnswer} {y : TxAnswer} {ys : List TxAnswer}
  (k : Nat) (hcall : CallsStart b wrap after s) (hbusy : s.seq.busy = true) (hnone : s.eng.pending = none)
  (hpos : s.seq.pos = wrap .command)

include hcall hbusy hnone hpos

/-- The first two rounds: the START is launched and completes. -/
theorem start_to_checkStart (hx : s.env.starts = x :: xs) :
    StartAt wrap s .checkStart [(startCompletion (startKind s) x).event] (startCompletion (startKind s) x).phase none
        { s.env with starts := xs } (rounds k 2 s) ∧
      (rounds k 2 s).seq.sc = (startCompletion (startKind s) x).sc := by
  have hfirst : StartAt wrap s .command [] s.eng.phase none s.env s :=
    ⟨hpos, rfl, (List.append_nil _).symm, rfl, rfl, hnone, rfl⟩
  exact (hfirst.command (k := k) hcall hbusy).status hcall hbusy hx

/-- The next four rounds, after a START: the address byte is launched and completes. -/
theorem start_to_checkAddr (hx : s.env.starts = .done :: xs) (hy : s.env.txs = y :: ys) :
    StartAt wrap s .checkAddr [.started (startKind s), (addrCompletion b y).event] (addrCompletion b y).phase none
        { s.env with starts := xs, txs := ys } (rounds k 6 s) ∧
      (rounds k 6 s).seq.sc = (addrCompletion b y).sc := by
  obtain ⟨hstart, hsc⟩ := start_to_checkStart k hcall hbusy hnone hpos hx
  have hok : startOk (rounds k 2 s).seq.sc = true := by rw [hsc, startOk_startCompletion]; rfl
  exact (hstart.sendAddress (k := k) hcall hbusy hok).addrStatus hcall hbusy hy

variable (hreturns : ReturnsStart wrap after s)

include hreturns

theorem start_failedStart (hx : s.env.starts = x :: xs) (hfail : x ≠ .done) :
    StartReturned s (rounds k 3 s) .failedStart [(startCompletion (startKind s) x).event]
      (startCompletion (startKind s) x).phase := by
  obtain ⟨hstart, hsc⟩ := start_to_checkStart k hcall hbusy hnone hpos hx
  have hnot : startOk (rounds k 2 s).seq.sc = false := by rw [hsc, startOk_startCompletion, beq_false_of_ne hfail]
  rw [rounds_add k 2 1, hstart.checkStart_failed hcall hbusy hnot]
  exact hreturns _ (hstart.ticks k)

theorem start_noAck (hx : s.env.starts = .done :: xs) (hy : s.env.txs = y :: ys) (hfail : y ≠ .ack) :
    StartReturned s (rounds k 7 s) .noAck [.started (startKind s), (addrCompletion b y).event]
      (addrCompletion b y).phase := by
  obtain ⟨haddr, hsc⟩ := start_to_checkAddr k hcall hbusy hnone hpos hx hy
  have hnot : addrAck (rounds k 6 s).seq.sc = false := by rw [hsc, addrAck_addrCompletion, beq_false_of_ne hfail]
  rw [rounds_add k 6 1, haddr.checkAddr_failed hcall hbusy hnot]
  exact hreturns _ (haddr.ticks k)

theorem start_ok (hx : s.env.starts = .done :: xs) (hy : s.env.txs = .ack :: ys) :
    StartReturned s (rounds k 8 s) .ok [.started (startKind s), .addr b .ack]
      (addrCompletion b .ack).phase := by
  obtain ⟨haddr, hsc⟩ := start_to_checkAddr k hcall hbusy hnone hpos hx hy
  have hack : addrAck (rounds k 6 s).seq.sc = true := by rw [hsc, addrAck_addrCompletion]; rfl
  obtain ⟨u, hu, hreturn⟩ := haddr.checkAddr_ok (k := k) hcall hbusy hack
  rw [rounds_add k 6 2, hreturn]
  exact hreturns _ hu

end Start

/-! ### The three operations -/

theorem callsStart_start {b : Byte} {s : State} (hb : b = s.seq.a) : CallsStart b .start finish s := by
  intro l t ha hpos
  simp only [seqLine, hpos, ha, hb]

theorem callsStart_write {b : Byte} {s : State} (hb : b = s.seq.a) :
    CallsStart b (fun l => .write (.start l)) (keepOutcome (.write .checkStart)) s := by
  intro l t ha hpos
  simp only [seqLine, hpos, writeOpLine, ha, hb]

theorem callsStart_read {b : Byte} {s : State} (hb : b = readAddress s.seq.a) :
    CallsStart b (fun l => .read (.start l)) (keepOutcome (.read .checkStart)) s := by
  intro l t ha hpos
  simp only [seqLine, hpos, readOpLine, ha, hb]

theorem returnsStart_start {s : State} (hpos : s.seq.pos = .start .command) (hop : s.seq.op = 0x2#4) :
    ReturnsStart .start finish s := by
  intro l es p e u o h
  have houtcome : (finish o u).seq.outcome = o := by
    have hu : u.seq.op = 0x2#4 := (congrArg Seq.op h.seq :).trans hop
    simp [finish_eq, hu, returnsOutcome]
  exact ⟨fun _ => ⟨rfl, houtcome⟩, fun hw => absurd (hpos.symm.trans hw) nofun,
    fun hr => absurd (hpos.symm.trans hr) nofun, h.events, h.phase, h.pending, h.faults⟩

theorem returnsStart_write {s : State} (hpos : s.seq.pos = .write (.start .command)) (hbusy : s.seq.busy = true) :
    ReturnsStart (fun l => .write (.start l)) (keepOutcome (.write .checkStart)) s := by
  intro l es p e u o h
  have hu : u.seq.busy = true := (congrArg Seq.busy h.seq :).trans hbusy
  exact ⟨fun hs => absurd (hpos.symm.trans hs) nofun, fun _ => ⟨hu, rfl, rfl⟩,
    fun hr => absurd (hpos.symm.trans hr) nofun, h.events, h.phase, h.pending, h.faults⟩

theorem returnsStart_read {s : State} (hpos : s.seq.pos = .read (.start .command)) (hbusy : s.seq.busy = true) :
    ReturnsStart (fun l => .read (.start l)) (keepOutcome (.read .checkStart)) s := by
  intro l es p e u o h
  have hu : u.seq.busy = true := (congrArg Seq.busy h.seq :).trans hbusy
  exact ⟨fun hs => absurd (hpos.symm.trans hs) nofun, fun hw => absurd (hpos.symm.trans hw) nofun,
    fun _ => ⟨hu, rfl, rfl⟩, h.events, h.phase, h.pending, h.faults⟩

/-- The three operations call the start and take its return as it is said above. -/
theorem startCall_of_pos {b : Byte} {s : State} (hbusy : s.seq.busy = true)
    (hpos : s.seq.pos = .start .command ∧ s.seq.op = 0x2#4 ∧ b = s.seq.a ∨
      s.seq.pos = .write (.start .command) ∧ b = s.seq.a ∨
      s.seq.pos = .read (.start .command) ∧ b.toNat = (s.seq.a.toNat + 1) % 256) :
    ∃ wrap after, s.seq.pos = wrap .command ∧ CallsStart b wrap after s ∧ ReturnsStart wrap after s := by
  rcases hpos with ⟨hpos, hop, hb⟩ | ⟨hpos, hb⟩ | ⟨hpos, hb⟩
  · exact ⟨_, _, hpos, callsStart_start hb, returnsStart_start hpos hop⟩
  · exact ⟨_, _, hpos, callsStart_write hb, returnsStart_write hpos hbusy⟩
  · have hread : b = readAddress s.seq.a := BitVec.eq_of_toNat_eq (hb.trans (BitVec.toNat_add s.seq.a 1#8).symm)
    exact ⟨_, _, hpos, callsStart_read hread, returnsStart_read hpos hbusy⟩

/-- Settles O43: one run of `start_core` for the three operations, by the answers. -/
theorem startOperationReturnsByItsAnswers : Obligations.StartOperationReturnsByItsAnswers := by
  intro k b s hbusy hnone hop kind returned
  obtain ⟨wrap, after, hpos, hcall, hreturns⟩ := startCall_of_pos hbusy hop
  exact ⟨fun _ _ hx hy => start_ok k hcall hbusy hnone hpos hreturns hx hy,
    fun _ _ hx hy => start_noAck k hcall hbusy hnone hpos hreturns hx hy nofun,
    fun _ _ hx hy => start_noAck k hcall hbusy hnone hpos hreturns hx hy nofun,
    fun _ hx => start_failedStart k hcall hbusy hnone hpos hreturns hx nofun,
    fun _ hx => start_failedStart k hcall hbusy hnone hpos hreturns hx nofun⟩

end Sys2Proof.Machine
end

section
/-! The completions of a data byte and of a receive (44_byte_transfer.md R271, R273; 43_bus_primitives.md R229, R237). -/

namespace Sys2Proof.Machine

/-- Settles O33: by the answer, which the engine takes first. -/
theorem dataByteCompletes : Obligations.DataByteCompletes := by
  intro b s hpending done
  refine ⟨fun c hok hdata => ?_, ?_⟩
  · simpa [hpending, hdata, dataFits] using ((engineOk_iff s).mp hok).fitsData
  rw [engineStep_of_pending hpending]
  refine ⟨fun h => ?_, fun h => ?_, fun h => ?_⟩ <;> simp only [completeCmd, completeTx, h]
  all_goals
    simp only [loseArbitration, done]
    rw [← afterTx_eng s, ← afterTx_events s]
    rfl

/-- Settles O34: by the answer and by the acknowledge selected at the launch. -/
theorem receiveCompletes : Obligations.ReceiveCompletes := by
  intro ack s hpending done
  rw [engineStep_of_pending hpending]
  refine ⟨fun v h hack => ?_, fun v h hack => ?_, fun h => ?_⟩ <;>
    simp only [completeCmd, completeRx, h, loseArbitration, done] <;>
    rw [← afterRx_eng s, ← afterRx_events s]
  · rw [hack]; rfl
  · rw [hack]; rfl
  · rfl

/-- What a completion leaves of the engine, whatever the command and the answer (43_bus_primitives.md R229). -/
theorem engineStep_completed {c : Cmd} {s : State} (h : s.eng.pending = some c) :
    (engineStep s).eng.ctrl.int = true ∧ (engineStep s).eng.pending = none := by
  rw [engineStep_of_pending h]
  exact ⟨rfl, rfl⟩

/-- The completion of a data byte, sent in the phase `p` (44_byte_transfer.md R271). -/
def txCompletion (p : Phase) (b : Byte) : TxAnswer → Completion
  | .ack => ⟨.tx b .ack, scDataTxAck, p⟩
  | .nack => ⟨.tx b .nack, scDataTxNack, p⟩
  | .arbLost => ⟨.tx b .arbLost, scArbLost, .idle⟩

theorem engineStep_data {b : Byte} {s : State} (hpending : s.eng.pending = some (.dataTx b)) :
    CompletedBy (txCompletion s.eng.phase b s.txAnswer) s.afterTx.env s (engineStep s) := by
  obtain ⟨-, hack, hnack, hlost⟩ := dataByteCompletes b s hpending
  cases hanswer : s.txAnswer with
  | ack =>
    rw [hack hanswer]
    exact ⟨rfl, statusCode_of_code (sc := scDataTxAck) (by decide) rfl, rfl, rfl, rfl, afterTx_faults s, rfl⟩
  | nack =>
    rw [hnack hanswer]
    exact ⟨rfl, statusCode_of_code (sc := scDataTxNack) (by decide) rfl, rfl, rfl, rfl, afterTx_faults s, rfl⟩
  | arbLost =>
    rw [hlost hanswer]
    exact ⟨rfl, statusCode_of_code (sc := scArbLost) (by decide) rfl, rfl, rfl, rfl, afterTx_faults s, rfl⟩

theorem txAck_txCompletion (p : Phase) (b : Byte) (y : TxAnswer) :
    txAck (txCompletion p b y).sc = (y == .ack) := by
  cases y <;> rfl

/-- The completion of a receive with the byte `v` (44_byte_transfer.md R273). -/
def rxCompletion (ack : Bool) (v : Byte) : Completion :=
  ⟨.rx v (if ack then .ack else .nack), if ack then scDataRxAck else scDataRxNack, if ack then .mr else .mrHold⟩

theorem rxAnswer_of_given {s : State} {x : RxAnswer} {xs : List RxAnswer} (h : s.env.rxs = x :: xs) :
    s.rxAnswer = x ∧ s.afterRx.env = { s.env with rxs := xs } := by
  simp [State.rxAnswer, State.afterRx, h]

theorem engineStep_received {ack : Bool} {v : Byte} {xs : List RxAnswer} {s : State}
    (hpending : s.eng.pending = some (.dataRx ack)) (hv : s.env.rxs = .byte v :: xs) :
    CompletedBy (rxCompletion ack v) { s.env with rxs := xs } s (engineStep s) ∧
      (engineStep s).eng.data = .holds v := by
  obtain ⟨hanswer, henv⟩ := rxAnswer_of_given hv
  obtain ⟨hack, hnack, -⟩ := receiveCompletes ack s hpending
  cases ack with
  | true =>
    rw [hack v hanswer rfl]
    exact ⟨⟨rfl, statusCode_of_code (sc := scDataRxAck) (by decide) rfl, rfl, rfl, rfl, afterRx_faults s, henv⟩, rfl⟩
  | false =>
    rw [hnack v hanswer rfl]
    exact ⟨⟨rfl, statusCode_of_code (sc := scDataRxNack) (by decide) rfl, rfl, rfl, rfl, afterRx_faults s, henv⟩, rfl⟩

theorem rxDone_rxCompletion (ack : Bool) (v : Byte) : rxDone (rxCompletion ack v).sc = true := by
  cases ack <;> rfl

/-- TX_ACK of the status code, by CODE (30_encoding.md R121). -/
theorem txAck_statusCode (s : State) : txAck (statusCode s) = (s.eng.code == 0x05#5) := by
  have h : ∀ c : BitVec 5, txAck (c ++ 0#3) = (c == 0x05#5) := by decide
  rw [statusCode_eq, h]

/-- RX_DONE of the status code, by CODE (30_encoding.md R121). -/
theorem rxDone_statusCode (s : State) :
    rxDone (statusCode s) = (s.eng.code == 0x0A#5 || s.eng.code == 0x0B#5) := by
  have h : ∀ c : BitVec 5, rxDone (c ++ 0#3) = (c == 0x0A#5 || c == 0x0B#5) := by decide
  rw [statusCode_eq, h]

/-- The completion of an address byte is not that of an acknowledged data byte (30_encoding.md R121). -/
theorem txAck_engineStep_addr {b : Byte} {s : State} (hpending : s.eng.pending = some (.addrTx b)) :
    txAck (statusCode (engineStep s)) = false := by
  obtain ⟨-, hwAck, hrAck, hwNack, hrNack, hlost⟩ := addressByteCompletes b s hpending
  rw [txAck_statusCode]
  cases hanswer : s.txAnswer with
  | ack =>
    cases hb : b.getLsbD 0 with
    | false => rw [hwAck hanswer hb]; rfl
    | true => rw [hrAck hanswer hb]; rfl
  | nack =>
    cases hb : b.getLsbD 0 with
    | false => rw [hwNack hanswer hb]; rfl
    | true => rw [hrNack hanswer hb]; rfl
  | arbLost => rw [hlost hanswer]; rfl

/-- Nor is the completion of a receive. -/
theorem txAck_engineStep_receive {ack : Bool} {s : State} (hpending : s.eng.pending = some (.dataRx ack)) :
    txAck (statusCode (engineStep s)) = false := by
  obtain ⟨hack, hnack, hlost⟩ := receiveCompletes ack s hpending
  rw [txAck_statusCode]
  cases hanswer : s.rxAnswer with
  | byte v =>
    cases ack with
    | true => rw [hack v hanswer rfl]; rfl
    | false => rw [hnack v hanswer rfl]; rfl
  | arbLost => rw [hlost hanswer]; rfl

end Sys2Proof.Machine
end

section
/-! The lines that a run of the sequencer executes, and the lines of a procedure that make another attempt after a delay
(43_bus_primitives.md R242; 44_byte_transfer.md R280 to R282; 41_timing_source.md R186). -/

namespace Sys2Proof.Machine

/-! ### Runs and the lines they execute -/

/-- A schedule leads from `s` to `t`, and the lines it executes are `ps`. -/
inductive Runs (others : State → State) : List SeqPos → State → State → Prop where
  | nil (s : State) : Runs others [] s s
  | cons {p : SeqPos} {ps : List SeqPos} {s t : State} (line : (others s).seq.pos = p)
      (rest : Runs others ps (sequencerStep Config.writeChecksStart (others s)) t) : Runs others (p :: ps) s t

section

variable {others : State → State} {ps qs : List SeqPos} {s t u : State} {n : Nat}

theorem Runs.append (h : Runs others ps s t) (h' : Runs others qs t u) : Runs others (ps ++ qs) s u := by
  induction h with
  | nil => exact h'
  | cons line _ ih => exact .cons line (ih h')

theorem Runs.schedule_eq (h : Runs others ps s t) (hn : ps.length = n) : schedule others n s = t := by
  subst hn
  induction h with
  | nil => rfl
  | cons _ _ ih => exact ih

theorem Runs.visits_eq (h : Runs others ps s t) (hn : ps.length = n) (p : SeqPos) :
    visits others p n s = ps.count p := by
  subst hn
  induction h with
  | nil => rfl
  | cons line _ ih =>
    rw [List.length_cons, visits, ih, line, List.count_cons, Nat.add_comm]
    simp only [beq_iff_eq]

end

/-- The lines `ps`, `n` times. -/
def cycles (n : Nat) (ps : List SeqPos) : List SeqPos := (List.replicate n ps).flatten

@[simp] theorem cycles_zero (ps : List SeqPos) : cycles 0 ps = [] := rfl

theorem cycles_succ (n : Nat) (ps : List SeqPos) : cycles (n + 1) ps = ps ++ cycles n ps := rfl

@[simp] theorem cycles_one (ps : List SeqPos) : cycles 1 ps = ps := List.append_nil ps

theorem cycles_add (m n : Nat) (ps : List SeqPos) : cycles (m + n) ps = cycles m ps ++ cycles n ps := by
  rw [cycles, cycles, cycles, ← List.flatten_append, List.replicate_append_replicate]

@[simp] theorem length_cycles (n : Nat) (ps : List SeqPos) : (cycles n ps).length = n * ps.length := by
  simp [cycles]

@[simp] theorem count_cycles (n : Nat) (ps : List SeqPos) (p : SeqPos) :
    (cycles n ps).count p = n * ps.count p := by
  simp [cycles, List.count_flatten]

/-! ### Ticks and completions beside the lines -/

/-- The timer's step, said of the timer (41_timing_source.md R181). -/
def Tmr.tick (t : Tmr) : Tmr :=
  if t.run then { t with cnt := t.cnt + 1#16, matched := t.matched || t.cnt + 1#16 == t.target } else t

theorem timerStep_eq (s : State) : timerStep s = { s with tmr := s.tmr.tick } := by
  unfold timerStep Tmr.tick
  split_ifs <;> rfl

theorem ticks_eq (k : Nat) (s : State) : ticks k s = { s with tmr := Tmr.tick^[k] s.tmr } := by
  induction k generalizing s with
  | zero => rfl
  | succ k ih => rw [ticks, ih, timerStep_eq, Function.iterate_succ_apply]

@[simp] theorem ticks_cfg (k : Nat) (s : State) : (ticks k s).cfg = s.cfg := by rw [ticks_frame]
@[simp] theorem ticks_buf (k : Nat) (s : State) : (ticks k s).buf = s.buf := by rw [ticks_frame]

section

variable (k : Nat) (s : State)

/-- A completion after ticks leaves the sequencer's side of the state. -/
theorem settle_frame :
    (settle k s).cfg = s.cfg ∧ (settle k s).buf = s.buf ∧ (settle k s).faults = s.faults := by
  rcases engineStep_cases (ticks k s) with ⟨-, h⟩ | ⟨c, -, h⟩
  · simp [settle, h]
  · obtain ⟨-, -, hcfg, -, -, hbuf, hfaults, -⟩ := completeCmd_frame c (ticks k s)
    simp [settle, h, hcfg, hbuf, hfaults]

@[simp] theorem settle_cfg : (settle k s).cfg = s.cfg := (settle_frame k s).1
@[simp] theorem settle_buf : (settle k s).buf = s.buf := (settle_frame k s).2.1
@[simp] theorem settle_faults : (settle k s).faults = s.faults := (settle_frame k s).2.2

end

/-- While the engine is as it is in `s`, the other agents make `k` ticks and nothing else. -/
def OnlyTicks (others : State → State) (k : Nat) (s : State) : Prop :=
  ∀ t : State, t.eng = s.eng → others t = ticks k t

theorem onlyTicks_ticks (k : Nat) (s : State) : OnlyTicks (ticks k) k s := fun _ _ => rfl

theorem onlyTicks_settle (k : Nat) {s : State} (hnone : s.eng.pending = none) : OnlyTicks (settle k) k s :=
  fun t h => settle_free k t (by rw [h, hnone])

/-- After the end of an operation the other agents' ticks are all that happens. -/
theorem Runs.ended {others : State → State} {k : Nat} {s : State} (hothers : OnlyTicks others k s)
    (hbusy : s.seq.busy = false) (hpos : s.seq.pos = .none) (n : Nat) :
    ∃ m, Runs others (cycles n [.none]) s { s with tmr := m } := by
  induction n generalizing s with
  | zero => exact ⟨s.tmr, .nil s⟩
  | succ n ih =>
    obtain ⟨m, hrest⟩ := ih (s := { s with tmr := Tmr.tick^[k] s.tmr }) hothers hbusy hpos
    have htick : others s = { s with tmr := Tmr.tick^[k] s.tmr } := (hothers s rfl).trans (ticks_eq k s)
    refine ⟨m, .cons (by rw [htick, hpos]) ?_⟩
    rwa [sequencerStep_idle _ _ (by rw [htick, hbusy]), htick]

/-! ### The lines of a procedure -/

/-- The lines `wrap l` run the procedure `core`, and `after` is the step of its return. -/
def Calls {L : Type} (core : L → State → Flow L) (wrap : L → SeqPos) (after : TransferOutcome → State → State) :
    Prop :=
  ∀ (l : L) (t : State), t.seq.pos = wrap l →
    seqLine Config.writeChecksStart t = runCall (core l t) t wrap after

/-- The lines of a procedure that spend an attempt and, after a delay, give up or go on at `again`
(44_byte_transfer.md R281, R282). -/
structure RetryLines {L : Type} (core : L → State → Flow L) (spend arm disarm check again : L) : Prop where
  spend_eq : ∀ t, core spend t = .line arm (spendAttempt t)
  arm_eq : ∀ t, core arm t = .line disarm (armDelay t.cfg.ticks t)
  disarm_eq : ∀ t, core disarm t = if t.tmr.matched then .line check (disarmDelay t) else .wait
  check_eq : ∀ t, core check t = if t.seq.exhausted then .ret .noAck t else .line again t

section

variable {L : Type} {core : L → State → Flow L} {wrap : L → SeqPos} {after : TransferOutcome → State → State}
  {others : State → State} {k : Nat} {l spend arm disarm check again : L} {s : State}

/-- A line of a procedure, after the moves of the other agents. -/
theorem Calls.runs (hcalls : Calls core wrap after) (hpos : (others s).seq.pos = wrap l)
    (hbusy : (others s).seq.busy = true) :
    Runs others [wrap l] s (runCall (core l (others s)) (others s) wrap after) := by
  rw [← hcalls l _ hpos, ← sequencerStep_busy _ _ hbusy]
  exact .cons hpos (.nil _)

/-- The same where the other agents make ticks only. -/
theorem Calls.runs_ticks (hcalls : Calls core wrap after) (hothers : OnlyTicks others k s)
    (hpos : s.seq.pos = wrap l) (hbusy : s.seq.busy = true) :
    Runs others [wrap l] s (runCall (core l (ticks k s)) (ticks k s) wrap after) := by
  have htick := hothers s rfl
  rw [← htick]
  exact hcalls.runs (by rw [htick, ticks_seq, hpos]) (by rw [htick, ticks_seq, hbusy])

/-- The second line of a delay of at most `k` ticks does not wait (41_timing_source.md R184, R186). -/
theorem Calls.finishDelay (hcalls : Calls core wrap after) (hretry : RetryLines core spend arm disarm check again)
    (hothers : OnlyTicks others k s) (hbusy : s.seq.busy = true) {n : Half} (hn : n.toNat ≤ k) :
    ∃ m, Runs others [wrap disarm] ((armDelay n s).goto (wrap disarm))
      { s with tmr := m, seq := { s.seq with pos := wrap check } } := by
  have hrun := hcalls.runs_ticks (s := (armDelay n s).goto (wrap disarm)) hothers rfl hbusy
  have hticks := ticks_armDelay n k (s.goto (wrap disarm))
  rw [show (armDelay n s).goto (wrap disarm) = armDelay n (s.goto (wrap disarm)) from rfl] at hrun ⊢
  rw [hretry.disarm_eq, hticks, if_pos (decide_eq_true hn), runCall_line] at hrun
  exact ⟨_, hrun⟩

/-- The lines from the spent attempt to the end of its delay. -/
theorem Calls.delay (hcalls : Calls core wrap after) (hretry : RetryLines core spend arm disarm check again)
    (hothers : OnlyTicks others k s) (hpos : s.seq.pos = wrap spend) (hbusy : s.seq.busy = true)
    (hticks : s.cfg.ticks.toNat ≤ k) :
    ∃ m, Runs others [wrap spend, wrap arm, wrap disarm] s
      { s with tmr := m, seq := { (spendAttempt s).seq with pos := wrap check } } := by
  have hspend := hcalls.runs_ticks hothers hpos hbusy
  rw [hretry.spend_eq, runCall_line, ticks_eq] at hspend
  have harm := hcalls.runs_ticks
    (s := (spendAttempt { s with tmr := Tmr.tick^[k] s.tmr }).goto (wrap arm)) hothers rfl hbusy
  rw [hretry.arm_eq, runCall_line, ticks_eq] at harm
  obtain ⟨m, hdisarm⟩ := hcalls.finishDelay hretry
    (s := { (spendAttempt s).goto (wrap arm) with tmr := Tmr.tick^[k] (Tmr.tick^[k] s.tmr) }) hothers hbusy hticks
  exact ⟨m, hspend.append (harm.append hdisarm)⟩

/-- After the last attempt the procedure returns NoAck (44_byte_transfer.md R280). -/
theorem Calls.giveUp (hcalls : Calls core wrap after) (hretry : RetryLines core spend arm disarm check again)
    (hothers : OnlyTicks others k s) (hpos : s.seq.pos = wrap check) (hbusy : s.seq.busy = true)
    (hexhausted : s.seq.exhausted = true) :
    ∃ m, Runs others [wrap check] s (after .noAck { s with tmr := m }) := by
  have hrun := hcalls.runs_ticks hothers hpos hbusy
  rw [hretry.check_eq, ticks_eq, if_pos hexhausted, runCall_ret] at hrun
  exact ⟨_, hrun⟩

/-- While attempts are left the procedure goes on. -/
theorem Calls.goOn (hcalls : Calls core wrap after) (hretry : RetryLines core spend arm disarm check again)
    (hothers : OnlyTicks others k s) (hpos : s.seq.pos = wrap check) (hbusy : s.seq.busy = true)
    (hleft : s.seq.exhausted = false) :
    ∃ m, Runs others [wrap check] s { s with tmr := m, seq := { s.seq with pos := wrap again } } := by
  have hrun := hcalls.runs_ticks hothers hpos hbusy
  rw [hretry.check_eq, ticks_eq, if_neg (by simp [hleft]), runCall_line] at hrun
  exact ⟨_, hrun⟩

end

theorem spendAttempt_last {s : State} (h : s.seq.c.toNat = 0) :
    (spendAttempt s).seq.exhausted = true ∧ (spendAttempt s).seq.c.toNat = 0 := by
  have hc : s.seq.c = 0#8 := BitVec.eq_of_toNat_eq h
  simp [spendAttempt, hc]

theorem spendAttempt_left {s : State} {n : Nat} (h : s.seq.c.toNat = n + 1) :
    (spendAttempt s).seq.exhausted = false ∧ (spendAttempt s).seq.c.toNat = n := by
  have hc : s.seq.c ≠ 0#8 := by
    intro hc
    simp [hc] at h
  simp [spendAttempt, hc]
  bv_omega

/-- The sequencer but for the line and the locals that the attempts of a byte transfer write. -/
def Seq.outside (q : Seq) : Seq := { q with pos := .none, sc := 0#8, c := 0#8, exhausted := false }

theorem busy_of_outside {q q' : Seq} (h : q'.outside = q.outside) : q'.busy = q.busy := (congrArg Seq.busy h :)

end Sys2Proof.Machine
end

section
/-! The operation `writeByte`: the procedure `write_byte_core`, with the engine completing each command before the next
line (44_byte_transfer.md R280, R281, R284). -/

namespace Sys2Proof.Machine

/-! ### What one attempt can do -/

/-- What an attempt to send a byte can change: the retry counter, the status code, the phase, the bus event history and
the answers still given. -/
structure SendProgress where
  budget : Nat
  code : Byte
  phase : Phase
  events : List Event
  env : Env

/-- The progress that a state stands at. -/
def State.sendProgress (s : State) : SendProgress :=
  ⟨s.seq.c.toNat, statusCode s, s.eng.phase, s.events, s.env⟩

/-- The progress after the completion `d` of a byte, the answers `e` being left. -/
def SendProgress.completed (x : SendProgress) (d : Completion) (e : Env) : SendProgress :=
  { x with code := d.sc, phase := d.phase, events := x.events ++ [d.event], env := e }

theorem CompletedBy.sendProgress {d : Completion} {e : Env} {s t : State} (h : CompletedBy d e s t)
    (hseq : t.seq = s.seq) : t.sendProgress = s.sendProgress.completed d e := by
  simp only [State.sendProgress, SendProgress.completed, hseq, h.sc, h.phase, h.events, h.env]

/-- What an attempt to send `b` can do, by the phase it is made in (43_bus_primitives.md R230, R231). -/
inductive Attempt (b : Byte) (x : SendProgress) : SendProgress → Prop where
  /-- The data byte is sent, and answered with the next answer. -/
  | data (y : TxAnswer) (e : Env) (phase : x.phase = .mt)
      (taken : ∀ z zs, x.env.txs = z :: zs → y = z ∧ e = { x.env with txs := zs }) :
      Attempt b x (x.completed (txCompletion .mt b y) e)
  /-- A command error; nothing is sent. -/
  | error (phase : x.phase = .idle ∨ x.phase = .mrHold) : Attempt b x { x with code := scCmdError }
  /-- An address byte or a receive, neither of which answers for a data byte. -/
  | other (y : SendProgress) (phase : x.phase = .addr ∨ x.phase = .mr) (budget : y.budget = x.budget)
      (code : txAck y.code = false) : Attempt b x y

theorem Attempt.budget_eq {b : Byte} {x y : SendProgress} (h : Attempt b x y) : y.budget = x.budget := by
  cases h with
  | data | error => rfl
  | other _ _ budget => exact budget

/-- Only the acknowledged data byte is taken for a success (30_encoding.md R121). -/
theorem Attempt.acked_event {b : Byte} {x y : SendProgress} (h : Attempt b x y) (hack : txAck y.code = true) :
    y.events.getLast? = some (.tx b .ack) := by
  cases h with
  | data y e =>
    obtain rfl : y = .ack := by simpa [SendProgress.completed, txAck_txCompletion] using hack
    exact List.getLast?_concat ..
  | error => exact absurd (show txAck scCmdError = true from hack) (by decide)
  | other y _ _ code => exact absurd (code.symm.trans hack) Bool.false_ne_true

section Transmit

variable {b : Byte} {w : State} (k : Nat) (p : SeqPos)

/-- The transmit line's write of CTRL, where it is accepted. -/
theorem writeCtrl_transmit_free (hnone : w.eng.pending = none) :
    writeCtrl cmdTransmit w = launchTransfer cmdTransmit (latchRate (storeCtrl cmdTransmit w)) := by
  rw [writeCtrl_cmdTransmit, ctrlTransfer, unlessPending_free _ _ _ _ hnone]

/-- A launched command is completed before the next line. -/
theorem settle_launch (c : Cmd) : (settle k ((launch c w).goto p)).eng.ctrl.int = true ∧
    (settle k ((launch c w).goto p)).eng.pending = none :=
  engineStep_completed (c := c) (by rw [ticks_eng]; rfl)

/-- After the transmit line INT is 1 and nothing is pending, and the attempt has been made. -/
theorem settle_transmit (hdata : w.eng.data = .holds b) (hnone : w.eng.pending = none) :
    (settle k ((writeCtrl cmdTransmit w).goto p)).eng.ctrl.int = true ∧
      (settle k ((writeCtrl cmdTransmit w).goto p)).eng.pending = none ∧
        Attempt b w.sendProgress (settle k ((writeCtrl cmdTransmit w).goto p)).sendProgress := by
  rw [writeCtrl_transmit_free hnone]
  cases hphase : w.eng.phase with
  | mt =>
    rw [launchTransfer_mt_holds (by exact hphase) (by exact hdata)]
    set u := (launch (.dataTx b) (latchRate (storeCtrl cmdTransmit w))).goto p
    have hmt : (ticks k u).eng.phase = .mt := by rw [ticks_eng]; exact hphase
    have hdone := engineStep_data (s := ticks k u) (b := b) (by rw [ticks_eng]; rfl)
    rw [hmt] at hdone
    refine ⟨hdone.int, hdone.pending, ?_⟩
    have hprogress (d : Completion) (e : Env) :
        (ticks k u).sendProgress.completed d e = w.sendProgress.completed d e := by
      simp only [State.sendProgress, ticks_seq, ticks_events, SendProgress.completed]
      rfl
    have hgiven (z : TxAnswer) (zs : List TxAnswer) (h : w.env.txs = z :: zs) :
        (ticks k u).txAnswer = z ∧ (ticks k u).afterTx.env = { w.env with txs := zs } := by
      have henv : (ticks k u).env = w.env := ticks_env k u
      rw [← henv] at h ⊢
      exact txAnswer_of_given h
    rw [settle, hdone.sendProgress (settle_seq k u ▸ (ticks_seq k u).symm), hprogress]
    exact .data _ _ hphase hgiven
  | addr =>
    rw [launchTransfer_addr_holds (by exact hphase) (by exact hdata)]
    refine ⟨(settle_launch k p _).1, (settle_launch k p _).2, .other _ (.inl hphase) ?_ ?_⟩
    · simp [State.sendProgress, launch_eq]
    · exact txAck_engineStep_addr (b := b) (by rw [ticks_eng]; rfl)
  | mr =>
    rw [launchTransfer_mr (by exact hphase)]
    refine ⟨(settle_launch k p _).1, (settle_launch k p _).2, .other _ (.inr hphase) ?_ ?_⟩
    · simp [State.sendProgress, launch_eq]
    · exact txAck_engineStep_receive (ack := false) (by rw [ticks_eng]; rfl)
  | idle | mrHold =>
    have hstuck : w.eng.phase = .idle ∨ w.eng.phase = .mrHold := by simp [hphase]
    rw [launchTransfer_cmdError (by exact hstuck), settle_free k _ (by exact hnone), ticks_eq]
    set u := (cmdError (latchRate (storeCtrl cmdTransmit w))).goto p
    have hcode : statusCode u = scCmdError := statusCode_of_code (by decide) rfl
    have hprogress : u.sendProgress = { w.sendProgress with code := scCmdError } := by rw [← hcode]; rfl
    exact ⟨rfl, hnone, hprogress ▸ .error hstuck⟩

end Transmit

/-! ### The lines of one attempt -/

/-- The call of `write_byte_core` that began in `s` stands at the line `l` with nothing pending: it raised no fault and
left BUF, the configuration and the sequencer but for the call's own locals. -/
structure SendsAt (wrap : ByteLine → SeqPos) (s : State) (l : ByteLine) (t : State) : Prop where
  pos : t.seq.pos = wrap l
  outside : t.seq.outside = s.seq.outside
  cfg : t.cfg = s.cfg
  buf : t.buf = s.buf
  faults : t.faults = s.faults
  pending : t.eng.pending = none
  polled : l = .checkAck → t.seq.sc = statusCode t

/-- The lines `wrap l` run `write_byte_core` for the byte that `arg` gives, which the call leaves. -/
structure CallsWriteByte (arg : Seq → Byte) (wrap : ByteLine → SeqPos)
    (after : TransferOutcome → State → State) : Prop where
  line : Calls (fun l t => writeByteCore (arg t.seq) l t) wrap after
  kept : ∀ q : Seq, arg q = arg q.outside

theorem retryLines_writeByteCore (arg : Seq → Byte) :
    RetryLines (fun l t => writeByteCore (arg t.seq) l t) .spend .arm .disarm .checkExhausted .data where
  spend_eq _ := rfl
  arm_eq _ := rfl
  disarm_eq _ := rfl
  check_eq _ := rfl

/-- The lines of an attempt up to its status. -/
def transmitLines (wrap : ByteLine → SeqPos) : List SeqPos := [wrap .data, wrap .transmit, wrap .status]

/-- The lines of an acknowledged attempt. -/
def ackedLines (wrap : ByteLine → SeqPos) : List SeqPos := transmitLines wrap ++ [wrap .checkAck]

/-- The lines of an attempt that was not acknowledged, its delay among them. -/
def failedLines (wrap : ByteLine → SeqPos) : List SeqPos :=
  ackedLines wrap ++ [wrap .spend, wrap .arm, wrap .disarm, wrap .checkExhausted]

section Lines

variable {k : Nat} {arg : Seq → Byte} {wrap : ByteLine → SeqPos} {after : TransferOutcome → State → State}
  {s t : State} {l : ByteLine}

theorem SendsAt.busy (h : SendsAt wrap s l t) (hbusy : s.seq.busy = true) : t.seq.busy = true :=
  (busy_of_outside h.outside).trans hbusy

theorem SendsAt.onlyTicks (h : SendsAt wrap s l t) : OnlyTicks (settle k) k t := onlyTicks_settle k h.pending

theorem SendsAt.ticks (h : SendsAt wrap s l t) (k : Nat) :
    SendsAt wrap s l (ticks k t) ∧ (Machine.ticks k t).sendProgress = t.sendProgress := by
  rw [ticks_eq]
  exact ⟨⟨h.pos, h.outside, h.cfg, h.buf, h.faults, h.pending, h.polled⟩, rfl⟩

variable (hcall : CallsWriteByte arg wrap after) (hbusy : s.seq.busy = true)

include hcall hbusy

/-- The first line of the call loads the retry counter. -/
theorem SendsAt.loadsBudget (h : SendsAt wrap s .budget t) :
    ∃ u, SendsAt wrap s .data u ∧ Runs (settle k) [wrap .budget] t u ∧
      u.sendProgress = { t.sendProgress with budget := s.cfg.retries.toNat } := by
  have hrun := hcall.line.runs_ticks h.onlyTicks (k := k) h.pos (h.busy hbusy)
  obtain ⟨ht, hprogress⟩ := h.ticks k
  refine ⟨_, ?_, hrun, ?_⟩
  · exact ⟨rfl, ht.outside, ht.cfg, ht.buf, ht.faults, ht.pending, nofun⟩
  · rw [← hprogress, ← ht.cfg]
    rfl

/-- The data line puts the byte into DATA. -/
theorem SendsAt.storesByte (h : SendsAt wrap s .data t) :
    ∃ u, SendsAt wrap s .transmit u ∧ u.eng.data = .holds (arg s.seq) ∧ Runs (settle k) [wrap .data] t u ∧
      u.sendProgress = t.sendProgress := by
  have hrun := hcall.line.runs_ticks h.onlyTicks (k := k) h.pos (h.busy hbusy)
  obtain ⟨ht, hprogress⟩ := h.ticks k
  have hbyte : arg (Machine.ticks k t).seq = arg s.seq := by
    rw [hcall.kept, ht.outside, ← hcall.kept]
  rw [writeByteCore, runCall_line, hbyte, writeData, unlessPending_free _ _ _ _ ht.pending] at hrun
  refine ⟨_, ?_, ?_, hrun, hprogress⟩
  · exact ⟨rfl, ht.outside, ht.cfg, ht.buf, ht.faults, ht.pending, nofun⟩
  · rfl

/-- The transmit line makes the attempt, and the status line reads what became of it. -/
theorem SendsAt.transmits (h : SendsAt wrap s .transmit t) (hdata : t.eng.data = .holds (arg s.seq)) :
    ∃ u, SendsAt wrap s .checkAck u ∧ Runs (settle k) [wrap .transmit, wrap .status] t u ∧
      Attempt (arg s.seq) t.sendProgress u.sendProgress := by
  have htransmit := hcall.line.runs_ticks h.onlyTicks (k := k) h.pos (h.busy hbusy)
  obtain ⟨ht, hprogress⟩ := h.ticks k
  rw [writeByteCore, runCall_line] at htransmit
  obtain ⟨hint, hnone, hattempt⟩ := settle_transmit k (wrap .status) ((congrArg Eng.data (ticks_eng k t)).trans hdata)
    ht.pending
  obtain ⟨-, -, -, hfaults⟩ := launchTransfer_frame cmdTransmit (latchRate (storeCtrl cmdTransmit (Machine.ticks k t)))
  rw [← writeCtrl_transmit_free ht.pending] at hfaults
  set u := (writeCtrl cmdTransmit (Machine.ticks k t)).goto (wrap .status) with hu
  have hseq : (settle k u).seq = { (Machine.ticks k t).seq with pos := wrap .status } := by
    rw [settle_seq, hu, State.goto, writeCtrl_seq]
  have hstatus := hcall.line.runs (others := settle k) (s := u) (l := .status) (by rw [hseq])
    (by rw [hseq]; exact ht.busy hbusy)
  rw [writeByteCore, if_pos hint, runCall_line] at hstatus
  refine ⟨_, ⟨?pos, ?outside, ?cfg, ?buf, ?faults, ?pending, fun _ => ?polled⟩, htransmit.append hstatus,
    hprogress ▸ hattempt⟩
  case pos | polled => rfl
  case outside => exact (congrArg Seq.outside hseq).trans ht.outside
  case cfg => exact (settle_cfg k u).trans ((writeCtrl_cfg _ _).trans ht.cfg)
  case buf => exact (settle_buf k u).trans ((writeCtrl_buf _ _).trans ht.buf)
  case faults => exact (settle_faults k u).trans (hfaults.trans ht.faults)
  case pending => exact hnone

/-- An attempt, up to the line that tests its status. -/
theorem SendsAt.attempts (h : SendsAt wrap s .data t) :
    ∃ u, SendsAt wrap s .checkAck u ∧ Runs (settle k) (transmitLines wrap) t u ∧
      Attempt (arg s.seq) t.sendProgress u.sendProgress := by
  obtain ⟨u, hu, hdata, hstore, hprogress⟩ := h.storesByte (k := k) hcall hbusy
  obtain ⟨v, hv, htransmit, hattempt⟩ := hu.transmits (k := k) hcall hbusy hdata
  exact ⟨v, hv, hstore.append htransmit, hprogress ▸ hattempt⟩

/-- After an acknowledged attempt the call returns Ok. -/
theorem SendsAt.returnsOk (h : SendsAt wrap s .checkAck t) (hack : txAck t.sendProgress.code = true) :
    ∃ u, SendsAt wrap s .checkAck u ∧ Runs (settle k) [wrap .checkAck] t (after .ok u) ∧
      u.sendProgress = t.sendProgress := by
  have hrun := hcall.line.runs_ticks h.onlyTicks (k := k) h.pos (h.busy hbusy)
  obtain ⟨hu, hprogress⟩ := h.ticks k
  rw [writeByteCore, hu.polled rfl, show statusCode (Machine.ticks k t) = _ from congrArg SendProgress.code hprogress,
    if_pos hack, runCall_ret] at hrun
  exact ⟨_, hu, hrun, hprogress⟩

/-- After an attempt that was not acknowledged an attempt is spent and a delay is made. -/
theorem SendsAt.delays (h : SendsAt wrap s .checkAck t) (hnack : txAck t.sendProgress.code = false)
    (hticks : s.cfg.ticks.toNat ≤ k) :
    ∃ u, SendsAt wrap s .checkExhausted u ∧
      Runs (settle k) [wrap .checkAck, wrap .spend, wrap .arm, wrap .disarm] t u ∧
      u.seq.exhausted = (spendAttempt t).seq.exhausted ∧
      u.sendProgress = { t.sendProgress with budget := (spendAttempt t).seq.c.toNat } := by
  have hcheck := hcall.line.runs_ticks h.onlyTicks (k := k) h.pos (h.busy hbusy)
  obtain ⟨hu, hprogress⟩ := h.ticks k
  rw [writeByteCore, hu.polled rfl, show statusCode (Machine.ticks k t) = _ from congrArg SendProgress.code hprogress,
    hnack, if_neg Bool.false_ne_true, runCall_line, ticks_eq] at hcheck
  obtain ⟨m, hdelay⟩ := hcall.line.delay (retryLines_writeByteCore arg) (others := settle k)
    (s := State.goto (wrap .spend) { t with tmr := Tmr.tick^[k] t.tmr }) h.onlyTicks rfl (h.busy hbusy)
    (by exact h.cfg ▸ hticks)
  refine ⟨_, ?_, hcheck.append hdelay, rfl, rfl⟩
  exact ⟨rfl, h.outside, h.cfg, h.buf, h.faults, h.pending, nofun⟩

/-- After the last attempt the call returns NoAck. -/
theorem SendsAt.givesUp (h : SendsAt wrap s .checkAck t) (hnack : txAck t.sendProgress.code = false)
    (hticks : s.cfg.ticks.toNat ≤ k) (hlast : t.sendProgress.budget = 0) :
    ∃ u, SendsAt wrap s .checkExhausted u ∧
      Runs (settle k) [wrap .checkAck, wrap .spend, wrap .arm, wrap .disarm, wrap .checkExhausted] t
        (after .noAck u) ∧
      u.sendProgress = t.sendProgress := by
  obtain ⟨u, hu, hdelay, hexhausted, hprogress⟩ := h.delays hcall hbusy hnack hticks
  obtain ⟨hspent, hzero⟩ := spendAttempt_last hlast
  obtain ⟨m, hgive⟩ := hcall.line.giveUp (retryLines_writeByteCore arg) hu.onlyTicks (k := k) hu.pos (hu.busy hbusy)
    (hexhausted.trans hspent)
  refine ⟨_, ?_, hdelay.append hgive, ?_⟩
  · exact ⟨hu.pos, hu.outside, hu.cfg, hu.buf, hu.faults, hu.pending, nofun⟩
  · refine Eq.trans (b := u.sendProgress) rfl (hprogress.trans ?_)
    rw [hzero, ← hlast]

/-- While attempts are left the call makes the next one. -/
theorem SendsAt.retries (h : SendsAt wrap s .checkAck t) (hnack : txAck t.sendProgress.code = false)
    (hticks : s.cfg.ticks.toNat ≤ k) {n : Nat} (hleft : t.sendProgress.budget = n + 1) :
    ∃ u, SendsAt wrap s .data u ∧
      Runs (settle k) [wrap .checkAck, wrap .spend, wrap .arm, wrap .disarm, wrap .checkExhausted] t u ∧
      u.sendProgress = { t.sendProgress with budget := n } := by
  obtain ⟨u, hu, hdelay, hexhausted, hprogress⟩ := h.delays hcall hbusy hnack hticks
  obtain ⟨hspent, hbudget⟩ := spendAttempt_left hleft
  obtain ⟨m, hgo⟩ := hcall.line.goOn (retryLines_writeByteCore arg) hu.onlyTicks (k := k) hu.pos (hu.busy hbusy)
    (hexhausted.trans hspent)
  refine ⟨_, ?_, hdelay.append hgo, hbudget ▸ hprogress⟩
  exact ⟨rfl, hu.outside, hu.cfg, hu.buf, hu.faults, hu.pending, nofun⟩

end Lines

end Sys2Proof.Machine
end

section
/-! The attempts of `write_byte_core` in a row, by the answers of the environment, and the operation `writeByte`
(44_byte_transfer.md R280, R281, R284). -/

namespace Sys2Proof.Machine

/-! ### What the next attempt comes to -/

/-- The status code is CMD_ERROR by its CODE (30_encoding.md R120). -/
theorem code_eq_cmdError_iff (c : BitVec 5) : c ++ 0#3 = scCmdError ↔ c = 0x1E#5 := by
  revert c; decide

theorem Attempt.given {b : Byte} {x y : SendProgress} {z : TxAnswer} {zs : List TxAnswer} (h : Attempt b x y)
    (hphase : x.phase = .mt) (hz : x.env.txs = z :: zs) :
    y = x.completed (txCompletion .mt b z) { x.env with txs := zs } := by
  cases h with
  | data y e _ taken =>
    obtain ⟨rfl, rfl⟩ := taken z zs hz
    rfl
  | error phase => simp [hphase] at phase
  | other y phase => simp [hphase] at phase

theorem Attempt.stuck {b : Byte} {x y : SendProgress} (h : Attempt b x y)
    (hphase : x.phase = .idle ∨ x.phase = .mrHold) : y = { x with code := scCmdError } := by
  cases h with
  | data _ _ phase => simp [phase] at hphase
  | error => rfl
  | other y phase => rcases phase with phase | phase <;> simp [phase] at hphase

/-! ### Attempts in a row -/

section Attempts

variable {k : Nat} {arg : Seq → Byte} {wrap : ByteLine → SeqPos} {after : TransferOutcome → State → State}
  {s t : State} (hcall : CallsWriteByte arg wrap after) (hbusy : s.seq.busy = true)
  (hticks : s.cfg.ticks.toNat ≤ k)

include hcall hbusy

/-- In phase MT an acknowledged attempt is the last one. -/
theorem SendsAt.acked {zs : List TxAnswer} (h : SendsAt wrap s .data t) (hphase : t.sendProgress.phase = .mt)
    (hack : t.sendProgress.env.txs = .ack :: zs) :
    ∃ u, SendsAt wrap s .checkAck u ∧ Runs (settle k) (ackedLines wrap) t (after .ok u) ∧
      u.sendProgress =
        t.sendProgress.completed (txCompletion .mt (arg s.seq) .ack) { t.sendProgress.env with txs := zs } := by
  obtain ⟨u, hu, hsend, hattempt⟩ := h.attempts (k := k) hcall hbusy
  have hprogress := hattempt.given hphase hack
  obtain ⟨v, hv, hreturn, hsame⟩ := hu.returnsOk (k := k) hcall hbusy (by rw [hprogress]; rfl)
  exact ⟨v, hv, hsend.append hreturn, hsame.trans hprogress⟩

/-- Whatever the phase and the answer, an attempt returns Ok with its acknowledged byte, or was not acknowledged. -/
theorem SendsAt.ackedOrNot (h : SendsAt wrap s .data t) :
    (∃ u, SendsAt wrap s .checkAck u ∧ Runs (settle k) (ackedLines wrap) t (after .ok u) ∧
      u.sendProgress.events.getLast? = some (.tx (arg s.seq) .ack)) ∨
    ∃ u, SendsAt wrap s .checkAck u ∧ Runs (settle k) (transmitLines wrap) t u ∧
      txAck u.sendProgress.code = false ∧ u.sendProgress.budget = t.sendProgress.budget := by
  obtain ⟨u, hu, hsend, hattempt⟩ := h.attempts (k := k) hcall hbusy
  cases hack : txAck u.sendProgress.code with
  | true =>
    obtain ⟨v, hv, hreturn, hsame⟩ := hu.returnsOk (k := k) hcall hbusy hack
    exact .inl ⟨v, hv, hsend.append hreturn, hsame ▸ hattempt.acked_event hack⟩
  | false => exact .inr ⟨u, hu, hsend, hack, hattempt.budget_eq⟩

include hticks

/-- In phase MT each of `j` NACKs costs an attempt and a delay. -/
theorem SendsAt.nacked (j n : Nat) {zs : List TxAnswer} (h : SendsAt wrap s .data t)
    (hphase : t.sendProgress.phase = .mt) (hbudget : t.sendProgress.budget = n + j)
    (hnacks : t.sendProgress.env.txs = List.replicate j .nack ++ zs) :
    ∃ u code, SendsAt wrap s .data u ∧ Runs (settle k) (cycles j (failedLines wrap)) t u ∧
      u.sendProgress =
        ⟨n, code, .mt, t.sendProgress.events ++ List.replicate j (.tx (arg s.seq) .nack),
          { t.sendProgress.env with txs := zs }⟩ := by
  induction j generalizing t with
  | zero =>
    refine ⟨t, t.sendProgress.code, h, .nil t, ?_⟩
    rw [← hphase, show n = t.sendProgress.budget from hbudget.symm, List.replicate_zero, List.append_nil,
      show zs = t.sendProgress.env.txs from hnacks.symm]
  | succ j ih =>
    obtain ⟨u, hu, hsend, hattempt⟩ := h.attempts (k := k) hcall hbusy
    have hprogress := hattempt.given hphase hnacks
    obtain ⟨v, hv, hretry, hnext⟩ := hu.retries hcall hbusy (by rw [hprogress]; rfl) hticks
      (n := n + j) (by rw [hprogress]; exact hbudget)
    rw [hprogress] at hnext
    obtain ⟨w, code, hw, hrest, hend⟩ := ih hv (by rw [hnext]; rfl) (by rw [hnext]) (by rw [hnext]; rfl)
    refine ⟨w, code, hw, (hsend.append hretry).append hrest, hend.trans ?_⟩
    rw [hnext]
    simp [SendProgress.completed, txCompletion, List.replicate_succ]

/-- In phase MT a call whose attempts are all NACKed returns NoAck. -/
theorem SendsAt.allNacked (n : Nat) {zs : List TxAnswer} (h : SendsAt wrap s .data t)
    (hphase : t.sendProgress.phase = .mt) (hbudget : t.sendProgress.budget = n)
    (hnacks : t.sendProgress.env.txs = List.replicate (n + 1) .nack ++ zs) :
    ∃ u, SendsAt wrap s .checkExhausted u ∧
      Runs (settle k) (cycles (n + 1) (failedLines wrap)) t (after .noAck u) ∧ u.sendProgress.phase = .mt ∧
      u.sendProgress.events = t.sendProgress.events ++ List.replicate (n + 1) (.tx (arg s.seq) .nack) := by
  rw [List.replicate_succ', List.append_assoc] at hnacks
  obtain ⟨u, code, hu, hrun, hlast⟩ := h.nacked hcall hbusy hticks n 0 hphase (hbudget.trans (Nat.zero_add n).symm)
    hnacks
  obtain ⟨v, hv, hsend, hattempt⟩ := hu.attempts (k := k) hcall hbusy
  have hprogress := hattempt.given (by rw [hlast]) (by rw [hlast]; rfl)
  obtain ⟨w, hw, hgive, hsame⟩ := hv.givesUp hcall hbusy (by rw [hprogress]; rfl) hticks
    (by rw [hprogress, hlast]; rfl)
  rw [hprogress, hlast] at hsame
  have hend : cycles (n + 1) (failedLines wrap) = cycles n (failedLines wrap) ++ failedLines wrap := by
    rw [cycles_add, cycles_one]
  refine ⟨w, hw, hend ▸ hrun.append (hsend.append hgive), congrArg SendProgress.phase hsame, ?_⟩
  rw [List.replicate_succ', ← List.append_assoc]
  exact congrArg SendProgress.events hsame

/-- In phases IDLE and MR_HOLD every attempt is a command error, and the call returns NoAck. -/
theorem SendsAt.stuck (n : Nat) (h : SendsAt wrap s .data t)
    (hphase : t.sendProgress.phase = .idle ∨ t.sendProgress.phase = .mrHold) (hbudget : t.sendProgress.budget = n) :
    ∃ u, SendsAt wrap s .checkExhausted u ∧
      Runs (settle k) (cycles (n + 1) (failedLines wrap)) t (after .noAck u) ∧
      u.sendProgress = { t.sendProgress with budget := 0, code := scCmdError } := by
  induction n generalizing t with
  | zero =>
    obtain ⟨u, hu, hsend, hattempt⟩ := h.attempts (k := k) hcall hbusy
    have hprogress := hattempt.stuck hphase
    obtain ⟨v, hv, hgive, hsame⟩ := hu.givesUp hcall hbusy (by rw [hprogress]; rfl) hticks
      (by rw [hprogress]; exact hbudget)
    refine ⟨v, hv, hsend.append hgive, ?_⟩
    rw [hsame, hprogress, hbudget]
  | succ n ih =>
    obtain ⟨u, hu, hsend, hattempt⟩ := h.attempts (k := k) hcall hbusy
    have hprogress := hattempt.stuck hphase
    obtain ⟨v, hv, hretry, hnext⟩ := hu.retries hcall hbusy (by rw [hprogress]; rfl) hticks
      (n := n) (by rw [hprogress]; exact hbudget)
    rw [hprogress] at hnext
    obtain ⟨w, hw, hrest, hend⟩ := ih hv (by rw [hnext]; exact hphase) (by rw [hnext])
    refine ⟨w, hw, (hsend.append hretry).append hrest, ?_⟩
    rw [hend, hnext]

/-- In phase MT a lost arbitration leaves the bus, so that the later attempts are command errors. -/
theorem SendsAt.lost (n : Nat) {zs : List TxAnswer} (h : SendsAt wrap s .data t)
    (hphase : t.sendProgress.phase = .mt) (hbudget : t.sendProgress.budget = n)
    (hlost : t.sendProgress.env.txs = .arbLost :: zs) :
    ∃ u, SendsAt wrap s .checkExhausted u ∧
      Runs (settle k) (cycles (n + 1) (failedLines wrap)) t (after .noAck u) ∧
      u.sendProgress.phase = .idle ∧
      u.sendProgress.events = t.sendProgress.events ++ [.tx (arg s.seq) .arbLost] := by
  obtain ⟨u, hu, hsend, hattempt⟩ := h.attempts (k := k) hcall hbusy
  have hprogress := hattempt.given hphase hlost
  cases n with
  | zero =>
    obtain ⟨v, hv, hgive, hsame⟩ := hu.givesUp hcall hbusy (by rw [hprogress]; rfl) hticks
      (by rw [hprogress]; exact hbudget)
    rw [hprogress] at hsame
    exact ⟨v, hv, hsend.append hgive, congrArg SendProgress.phase hsame, congrArg SendProgress.events hsame⟩
  | succ n =>
    obtain ⟨v, hv, hretry, hnext⟩ := hu.retries hcall hbusy (by rw [hprogress]; rfl) hticks
      (n := n) (by rw [hprogress]; exact hbudget)
    rw [hprogress] at hnext
    obtain ⟨w, hw, hrest, hend⟩ := hv.stuck hcall hbusy hticks n (.inl (by rw [hnext]; rfl)) (by rw [hnext])
    rw [hnext] at hend
    exact ⟨w, hw, (hsend.append hretry).append hrest, congrArg SendProgress.phase hend,
      congrArg SendProgress.events hend⟩

/-- Whatever the phase and the answers, the attempts end with the first acknowledged one, or all of them fail. -/
theorem SendsAt.ends (n : Nat) (h : SendsAt wrap s .data t) (hbudget : t.sendProgress.budget = n) :
    (∃ u, SendsAt wrap s .checkExhausted u ∧
      Runs (settle k) (cycles (n + 1) (failedLines wrap)) t (after .noAck u)) ∨
    ∃ j u, j ≤ n ∧ SendsAt wrap s .checkAck u ∧
      Runs (settle k) (cycles j (failedLines wrap) ++ ackedLines wrap) t (after .ok u) ∧
      u.sendProgress.events.getLast? = some (.tx (arg s.seq) .ack) := by
  induction n generalizing t with
  | zero =>
    rcases h.ackedOrNot (k := k) hcall hbusy with ⟨u, hu, hreturn, hevent⟩ | ⟨u, hu, hsend, hnack, hsame⟩
    · exact .inr ⟨0, u, le_rfl, hu, hreturn, hevent⟩
    · obtain ⟨v, hv, hgive, -⟩ := hu.givesUp hcall hbusy hnack hticks (hsame.trans hbudget)
      exact .inl ⟨v, hv, hsend.append hgive⟩
  | succ n ih =>
    rcases h.ackedOrNot (k := k) hcall hbusy with ⟨u, hu, hreturn, hevent⟩ | ⟨u, hu, hsend, hnack, hsame⟩
    · exact .inr ⟨0, u, Nat.zero_le _, hu, hreturn, hevent⟩
    · obtain ⟨v, hv, hretry, hnext⟩ := hu.retries hcall hbusy hnack hticks (hsame.trans hbudget)
      have hfailed := hsend.append hretry
      rcases ih hv (by rw [hnext]) with ⟨w, hw, hrest⟩ | ⟨j, w, hj, hw, hrest, hevent⟩
      · exact .inl ⟨w, hw, hfailed.append hrest⟩
      · exact .inr ⟨j + 1, w, Nat.succ_le_succ hj, hw, hfailed.append hrest, hevent⟩

end Attempts

/-! ### The operation -/

theorem callsWriteByte_writeByte : CallsWriteByte Seq.a .writeByte finish where
  line l t hpos := by simp only [seqLine, hpos]
  kept _ := rfl

/-- `writeByte` is an operation that returns an outcome (40_register_interface.md R154). -/
theorem SendsAt.finish_outcome {s u : State} {l : ByteLine} (h : SendsAt .writeByte s l u) (hop : s.seq.op = 0x5#4)
    (o : TransferOutcome) : (finish o u).seq.outcome = o := by
  have hu : u.seq.op = 0x5#4 := (congrArg Seq.op h.outside :).trans hop
  rw [finish_eq, hu]
  rfl

@[simp] theorem length_failedLines (wrap : ByteLine → SeqPos) : (failedLines wrap).length = 8 := rfl

@[simp] theorem length_ackedLines (wrap : ByteLine → SeqPos) : (ackedLines wrap).length = 4 := rfl

/-- An attempt that fails makes one transmission and one delay. -/
theorem count_failedLines_writeByte :
    (failedLines .writeByte).count (.writeByte .transmit) = 1 ∧
      (failedLines .writeByte).count (.writeByte .arm) = 1 := by decide

/-- An attempt that is acknowledged makes one transmission and no delay. -/
theorem count_ackedLines_writeByte :
    (ackedLines .writeByte).count (.writeByte .transmit) = 1 ∧
      (ackedLines .writeByte).count (.writeByte .arm) = 0 := by decide

section WriteByte

variable {k j r : Nat} {s t u w : State} {l : ByteLine}

/-- The first line of `writeByte` loads the budget from CFG_RETRIES. -/
theorem writeByte_loadsBudget (k : Nat) (hbusy : s.seq.busy = true) (hpos : s.seq.pos = .writeByte .budget)
    (hnone : s.eng.pending = none) :
    ∃ t, SendsAt .writeByte s .data t ∧ Runs (settle k) [.writeByte .budget] s t ∧
      t.sendProgress = { s.sendProgress with budget := s.cfg.retries.toNat } :=
  SendsAt.loadsBudget callsWriteByte_writeByte hbusy ⟨hpos, rfl, rfl, rfl, rfl, hnone, nofun⟩

/-- The lines, transmissions and delays of a `writeByte` whose attempts all fail. -/
theorem writeByte_exhausted (hload : Runs (settle k) [.writeByte .budget] s t)
    (hrun : Runs (settle k) (cycles (r + 1) (failedLines .writeByte)) t w) :
    rounds k (1 + 8 * (r + 1)) s = w ∧
      visits (settle k) (.writeByte .transmit) (1 + 8 * (r + 1)) s = r + 1 ∧
        visits (settle k) (.writeByte .arm) (1 + 8 * (r + 1)) s = r + 1 := by
  have hlines := hload.append hrun
  have hn : ([SeqPos.writeByte .budget] ++ cycles (r + 1) (failedLines .writeByte)).length = 1 + 8 * (r + 1) := by
    simp
    omega
  refine ⟨hlines.schedule_eq hn, ?_, ?_⟩ <;> rw [hlines.visits_eq hn] <;> simp [count_failedLines_writeByte]

/-- The same of a `writeByte` whose attempt after `j` failed ones is acknowledged, up to `i` lines after its end. -/
theorem writeByte_acked (i : Nat) (hload : Runs (settle k) [.writeByte .budget] s t)
    (hu : SendsAt .writeByte s l u)
    (hrun : Runs (settle k) (cycles j (failedLines .writeByte) ++ ackedLines .writeByte) t (finish .ok u)) :
    ∃ m, rounds k (1 + 8 * j + 4 + i) s = { finish .ok u with tmr := m } ∧
      visits (settle k) (.writeByte .transmit) (1 + 8 * j + 4 + i) s = j + 1 ∧
        visits (settle k) (.writeByte .arm) (1 + 8 * j + 4 + i) s = j := by
  obtain ⟨m, hidle⟩ := Runs.ended (others := settle k) (s := finish .ok u) hu.onlyTicks rfl rfl i
  have hlines := (hload.append hrun).append hidle
  have hn : ([SeqPos.writeByte .budget] ++ (cycles j (failedLines .writeByte) ++ ackedLines .writeByte) ++
      cycles i [.none]).length = 1 + 8 * j + 4 + i := by
    simp
    omega
  refine ⟨m, hlines.schedule_eq hn, ?_, ?_⟩ <;> rw [hlines.visits_eq hn] <;>
    simp [count_failedLines_writeByte, count_ackedLines_writeByte]

/-- Settles O44: the attempts end with an acknowledged one or all fail; all fail after `r + 1` NACKs, where no byte can
be sent, and after a lost arbitration. -/
theorem writeByteMakesRetriesPlusOneAttempts : Obligations.WriteByteMakesRetriesPlusOneAttempts := by
  intro k s hbusy hop hpos hnone hticks r n t attempts delays
  obtain ⟨t₀, hdata, hload, hprogress⟩ := writeByte_loadsBudget k hbusy hpos hnone
  have hcall := callsWriteByte_writeByte
  have hbudget : t₀.sendProgress.budget = r := by rw [hprogress]
  refine ⟨?ends, fun xs hphase htxs => ?nacked, fun hphase => ?stuck, fun j xs hphase hj htxs => ?lost⟩
  case ends =>
    rcases hdata.ends hcall hbusy hticks r hbudget with ⟨u, hu, hrun⟩ | ⟨j, u, hj, hu, hrun, hevent⟩
    · obtain ⟨ht, hattempts, hdelays⟩ := writeByte_exhausted hload hrun
      rw [show t = finish .noAck u from ht]
      exact ⟨rfl, .inl ⟨hu.finish_outcome hop _, hattempts, hdelays⟩⟩
    · obtain ⟨m, ht, hattempts, hdelays⟩ := writeByte_acked (8 * (r - j) + 4) hload hu hrun
      have hn : 1 + 8 * j + 4 + (8 * (r - j) + 4) = n := by omega
      rw [hn] at ht hattempts hdelays
      rw [show t = { finish .ok u with tmr := m } from ht]
      refine ⟨rfl, .inr ⟨hu.finish_outcome hop _, ?_, ?_, hevent⟩⟩ <;> omega
  case nacked =>
    obtain ⟨u, hu, hrun, hmt, hevents⟩ := hdata.allNacked hcall hbusy hticks r (by rw [hprogress]; exact hphase) hbudget
      (by rw [hprogress]; exact htxs)
    rw [show t = finish .noAck u from (writeByte_exhausted hload hrun).1]
    exact ⟨hu.finish_outcome hop _, hmt, by rw [hprogress] at hevents; exact hevents⟩
  case stuck =>
    obtain ⟨u, hu, hrun, hend⟩ := hdata.stuck hcall hbusy hticks r (by rw [hprogress]; exact hphase) hbudget
    rw [show t = finish .noAck u from (writeByte_exhausted hload hrun).1]
    rw [hprogress] at hend
    have hcode : u.eng.code = 0x1E#5 :=
      (code_eq_cmdError_iff _).mp ((statusCode_eq u).symm.trans (congrArg SendProgress.code hend))
    exact ⟨hu.finish_outcome hop _, congrArg SendProgress.phase hend, hcode, congrArg SendProgress.events hend⟩
  case lost =>
    obtain ⟨u, code, hu, hnacks, hnacked⟩ := hdata.nacked hcall hbusy hticks j (r - j)
      (by rw [hprogress]; exact hphase) (by rw [hbudget]; omega) (by rw [hprogress]; exact htxs)
    obtain ⟨v, hv, hlost, hidle, hevents⟩ := hu.lost hcall hbusy hticks (r - j) (by rw [hnacked]) (by rw [hnacked])
      (by rw [hnacked])
    have hrun : Runs (settle k) (cycles (r + 1) (failedLines .writeByte)) t₀ (finish .noAck v) := by
      rw [show r + 1 = j + (r - j + 1) by omega, cycles_add]
      exact hnacks.append hlost
    rw [show t = finish .noAck v from (writeByte_exhausted hload hrun).1]
    rw [hnacked, hprogress] at hevents
    exact ⟨hv.finish_outcome hop _, hidle, hevents⟩

/-- Settles O45: `j` attempts that fail, then one that is acknowledged. -/
theorem writeByteStopsAtTheFirstAck : Obligations.WriteByteStopsAtTheFirstAck := by
  intro k j xs s hbusy hop hpos hnone hphase hticks hj htxs n t
  obtain ⟨t₀, hdata, hload, hprogress⟩ := writeByte_loadsBudget k hbusy hpos hnone
  have hcall := callsWriteByte_writeByte
  obtain ⟨t₁, code, hnext, hnacks, hnacked⟩ := hdata.nacked hcall hbusy hticks j (s.cfg.retries.toNat - j)
    (by rw [hprogress]; exact hphase) (by rw [hprogress]; exact (Nat.sub_add_cancel hj).symm)
    (by rw [hprogress]; exact htxs)
  obtain ⟨u, hu, hack, hacked⟩ := hnext.acked (k := k) hcall hbusy (by rw [hnacked]) (by rw [hnacked])
  rw [hnacked, hprogress] at hacked
  obtain ⟨m, ht, hattempts, hdelays⟩ := writeByte_acked 0 hload hu (hnacks.append hack)
  rw [show t = { finish .ok u with tmr := m } from ht]
  exact ⟨rfl, hu.finish_outcome hop _, congrArg (fun x => x.env.txs) hacked, hattempts, hdelays,
    congrArg SendProgress.events hacked⟩

end WriteByte

end Sys2Proof.Machine
end

section
/-! The operation `readByte`: the procedure `read_byte_core`, and the operation's last line (44_byte_transfer.md R280,
R282, R284). -/

namespace Sys2Proof.Machine

/-! ### The lines of the procedure -/

theorem retryLines_readByteCore :
    RetryLines readByteCore .spend .arm .disarm .checkExhausted .poll where
  spend_eq _ := rfl
  arm_eq _ := rfl
  disarm_eq _ := rfl
  check_eq _ := rfl

/-- The lines of a poll that saw no received byte, up to the end of its delay. -/
def delayedPollLines (wrap : PollLine → SeqPos) : List SeqPos :=
  [wrap .poll, wrap .spend, wrap .arm, wrap .disarm]

/-- The same with the test of the budget. -/
def failedPollLines (wrap : PollLine → SeqPos) : List SeqPos := delayedPollLines wrap ++ [wrap .checkExhausted]

/-- The lines of a poll that saw a received byte. -/
def receivedLines (wrap : PollLine → SeqPos) : List SeqPos := [wrap .poll, wrap .data, wrap .returnOk]

@[simp] theorem length_delayedPollLines (wrap : PollLine → SeqPos) : (delayedPollLines wrap).length = 4 := rfl

@[simp] theorem length_failedPollLines (wrap : PollLine → SeqPos) : (failedPollLines wrap).length = 5 := rfl

/-- The call of `read_byte_core` that began in `s` stands at the line `l`, and nothing but the timer and the call's own
locals has changed. -/
structure PollsAt (wrap : PollLine → SeqPos) (s : State) (l : PollLine) (t : State) : Prop where
  pos : t.seq.pos = wrap l
  outside : t.seq.outside = s.seq.outside
  rest : t = { s with tmr := t.tmr, seq := t.seq }

section Frame

variable {wrap : PollLine → SeqPos} {s t : State} {l l' : PollLine}

theorem PollsAt.eng (h : PollsAt wrap s l t) : t.eng = s.eng := by rw [h.rest]

theorem PollsAt.cfg (h : PollsAt wrap s l t) : t.cfg = s.cfg := by rw [h.rest]

theorem PollsAt.busy (h : PollsAt wrap s l t) (hbusy : s.seq.busy = true) : t.seq.busy = true :=
  (busy_of_outside h.outside).trans hbusy

theorem PollsAt.onlyTicks {others : State → State} {k : Nat} (h : PollsAt wrap s l t)
    (hothers : OnlyTicks others k s) : OnlyTicks others k t := fun u hu => hothers u (hu.trans h.eng)

/-- A change of the timer and of the call's own locals. -/
theorem PollsAt.goes (h : PollsAt wrap s l t) (m : Tmr) {q : Seq} (hpos : q.pos = wrap l')
    (houtside : q.outside = t.seq.outside) : PollsAt wrap s l' { t with tmr := m, seq := q } :=
  ⟨hpos, houtside.trans h.outside, congrArg (fun u : State => { u with tmr := m, seq := q }) h.rest⟩

end Frame

section Lines

variable {others : State → State} {k : Nat} {wrap : PollLine → SeqPos} {after : TransferOutcome → State → State}
  {s t : State} {l : PollLine} (hcall : Calls readByteCore wrap after)

include hcall

/-- The first line of the call loads the retry counter. -/
theorem readByteCore_budget (hothers : OnlyTicks others k s) (hpos : s.seq.pos = wrap .budget)
    (hbusy : s.seq.busy = true) :
    Runs others [wrap .budget] s
      { s with tmr := Tmr.tick^[k] s.tmr, seq := { s.seq with c := s.cfg.retries, pos := wrap .poll } } := by
  have hrun := hcall.runs_ticks hothers hpos hbusy
  rwa [ticks_eq] at hrun

theorem readByteCore_loadsBudget (hothers : OnlyTicks others k s) (hpos : s.seq.pos = wrap .budget)
    (hbusy : s.seq.busy = true) :
    ∃ t, PollsAt wrap s .poll t ∧ Runs others [wrap .budget] s t ∧ t.seq.c = s.cfg.retries :=
  ⟨{ s with tmr := _, seq := { s.seq with c := s.cfg.retries, pos := wrap .poll } }, ⟨rfl, rfl, rfl⟩,
    readByteCore_budget hcall hothers hpos hbusy, rfl⟩

/-- A poll that sees a received byte returns it: it is the byte that DATA holds. -/
theorem readByteCore_received {v : Byte} (hothers : OnlyTicks others k s) (hpos : s.seq.pos = wrap .poll)
    (hbusy : s.seq.busy = true) (hdone : rxDone (statusCode s) = true) (hnone : s.eng.pending = none)
    (hdata : s.eng.data = .holds v) :
    Runs others (receivedLines wrap) s
      (after .ok
        { s with
          tmr := (Tmr.tick^[k])^[3] s.tmr
          seq := { s.seq with sc := statusCode s, v := v, pos := wrap .returnOk } }) := by
  have hpoll := hcall.runs_ticks hothers hpos hbusy
  rw [ticks_eq, readByteCore, if_pos (by exact hdone), runCall_line] at hpoll
  have hread := hcall.runs_ticks (l := .data) (s := State.goto (wrap .data) (pollStatus
    { s with tmr := Tmr.tick^[k] s.tmr })) hothers rfl hbusy
  rw [ticks_eq, readByteCore, runCall_line, fetchData, readDataReg_free (by exact hnone),
    readDrawn_of_holds _ (by exact hdata)] at hread
  have hreturn := hcall.runs_ticks (l := .returnOk)
    (s := { s with
      tmr := (Tmr.tick^[k])^[2] s.tmr
      seq := { s.seq with sc := statusCode s, v := v, pos := wrap .returnOk } }) hothers rfl hbusy
  rw [ticks_eq] at hreturn
  exact hpoll.append (hread.append hreturn)

variable (hothers : OnlyTicks others k s) (hbusy : s.seq.busy = true) (hticks : s.cfg.ticks.toNat ≤ k)
  (hwait : rxDone (statusCode s) = false)

include hothers hbusy hticks hwait

/-- A poll that sees no received byte is followed by a delay. -/
theorem PollsAt.delays (h : PollsAt wrap s .poll t) :
    ∃ u, PollsAt wrap s .checkExhausted u ∧ Runs others (delayedPollLines wrap) t u ∧
      u.seq.exhausted = (spendAttempt t).seq.exhausted ∧ u.seq.c = (spendAttempt t).seq.c := by
  have hpoll := hcall.runs_ticks (h.onlyTicks hothers) h.pos (h.busy hbusy)
  have hnot : ¬ rxDone (statusCode t) = true := by
    rw [statusCode_eq, h.eng, ← statusCode_eq, hwait]
    exact Bool.false_ne_true
  rw [ticks_eq, readByteCore, if_neg (by exact hnot), runCall_line] at hpoll
  obtain ⟨m, hdelay⟩ := hcall.delay retryLines_readByteCore
    (s := State.goto (wrap .spend) (pollStatus { t with tmr := Tmr.tick^[k] t.tmr })) (h.onlyTicks hothers) rfl
    (h.busy hbusy) (by exact h.cfg ▸ hticks)
  refine ⟨_, ?_, hpoll.append hdelay, rfl, rfl⟩
  exact h.goes m rfl rfl

/-- While attempts are left each of `j` polls that see no received byte costs an attempt and a delay. -/
theorem PollsAt.fails (j n : Nat) (h : PollsAt wrap s .poll t) (hbudget : t.seq.c.toNat = n + j) :
    ∃ u, PollsAt wrap s .poll u ∧ Runs others (cycles j (failedPollLines wrap)) t u ∧ u.seq.c.toNat = n := by
  induction j generalizing t with
  | zero => exact ⟨t, h, .nil t, hbudget⟩
  | succ j ih =>
    obtain ⟨u, hu, hdelay, hexhausted, hcounter⟩ := h.delays hcall hothers hbusy hticks hwait
    obtain ⟨hspent, hleft⟩ := spendAttempt_left hbudget
    obtain ⟨m, hgo⟩ := hcall.goOn retryLines_readByteCore (hu.onlyTicks hothers) hu.pos (hu.busy hbusy)
      (hexhausted.trans hspent)
    have hpolls := hu.goes (l' := .poll) m (q := { u.seq with pos := wrap .poll }) rfl rfl
    obtain ⟨v, hv, hrest, hend⟩ := ih hpolls ((congrArg BitVec.toNat hcounter).trans hleft)
    exact ⟨v, hv, (hdelay.append hgo).append hrest, hend⟩

end Lines

/-! ### The operation -/

theorem calls_readByte : Calls readByteCore .readByte (keepOutcome .readByteEnd) := by
  intro l t hpos
  simp only [seqLine, hpos]

/-- A failed poll makes one poll and one delay. -/
theorem count_failedPollLines_readByte :
    (failedPollLines .readByte).count (.readByte .poll) = 1 ∧
      (failedPollLines .readByte).count (.readByte .arm) = 1 := by decide

/-- The last line ends the operation with the outcome of the procedure, and puts a received byte into RESULT. -/
theorem seqLine_readByteEnd {checks : Bool} {s : State} (hpos : s.seq.pos = .readByteEnd) (hop : s.seq.op = 0x6#4) :
    seqLine checks s =
      { s with
        result := if s.seq.o = .ok then .holds s.seq.v else s.result
        seq := { s.seq with outcome := s.seq.o, busy := false, pos := .none } } := by
  have houtcome : returnsOutcome s.seq.op = true := by rw [hop]; rfl
  simp only [seqLine, hpos, readByteEndLine, finish_eq]
  split_ifs <;> rfl

/-- The last line after the return of the procedure with `o`. -/
theorem runs_readByteEnd {others : State → State} {k : Nat} {s : State} (o : TransferOutcome)
    (hothers : OnlyTicks others k s) (hbusy : s.seq.busy = true) (hop : s.seq.op = 0x6#4) :
    Runs others [.readByteEnd] (keepOutcome .readByteEnd o s)
      { s with
        tmr := Tmr.tick^[k] s.tmr
        result := if o = .ok then .holds s.seq.v else s.result
        seq := { s.seq with o := o, outcome := o, busy := false, pos := .none } } := by
  set t := keepOutcome .readByteEnd o s
  have htick : others t = { t with tmr := Tmr.tick^[k] s.tmr } := (hothers t rfl).trans (ticks_eq k t)
  have hline := seqLine_readByteEnd (checks := Config.writeChecksStart) (s := others t) (by rw [htick]; rfl)
    (by rw [htick]; exact hop)
  rw [← sequencerStep_busy _ _ (by rw [htick]; exact hbusy)] at hline
  refine .cons (by rw [htick]; rfl) ?_
  rw [hline, htick]
  exact .nil _

/-- A poll that sees a received byte, and the end of the operation with it. -/
theorem readByte_received {others : State → State} {k : Nat} {v : Byte} {s : State} (hothers : OnlyTicks others k s)
    (hpos : s.seq.pos = .readByte .poll) (hbusy : s.seq.busy = true) (hop : s.seq.op = 0x6#4)
    (hdone : rxDone (statusCode s) = true) (hnone : s.eng.pending = none) (hdata : s.eng.data = .holds v) :
    Runs others (receivedLines .readByte ++ [.readByteEnd]) s
      { s with
        tmr := (Tmr.tick^[k])^[4] s.tmr
        result := .holds v
        seq := { s.seq with
          sc := statusCode s
          v := v
          o := .ok
          outcome := .ok
          busy := false
          pos := .none } } :=
  (readByteCore_received calls_readByte hothers hpos hbusy hdone hnone hdata).append
    (runs_readByteEnd (s := { s with
      tmr := (Tmr.tick^[k])^[3] s.tmr
      seq := { s.seq with sc := statusCode s, v := v, pos := .readByte .returnOk } }) .ok hothers hbusy hop)

/-- Settles O46: a poll that sees the byte, at first, and after `j` polls that do not and the receive's completion. -/
theorem readByteReturnsTheReceivedByte : Obligations.ReadByteReturnsTheReceivedByte := by
  intro v s hbusy hop hpos
  have hcall := calls_readByte
  constructor
  · intro hnone hdata hcode
    have hdone : rxDone (statusCode s) = true := by simpa [rxDone_statusCode] using hcode
    have hload := readByteCore_budget hcall (onlyTicks_ticks 0 s) hpos hbusy
    have hrun := hload.append (readByte_received (onlyTicks_ticks 0 s) rfl hbusy hop hdone hnone hdata)
    exact hrun.schedule_eq rfl
  · intro k j ack xs hpending hack hnack hticks hj hrxs u t
    have hothers := onlyTicks_ticks k s
    have hwait : rxDone (statusCode s) = false := by simp [rxDone_statusCode, hack, hnack]
    obtain ⟨t₀, hstart, hload, hbudget⟩ := readByteCore_loadsBudget hcall hothers hpos hbusy
    obtain ⟨t₁, hnext, hpolls, -⟩ := hstart.fails hcall hothers hbusy hticks hwait j (s.cfg.retries.toNat - j)
      (by rw [hbudget, Nat.sub_add_cancel hj])
    have hrun := hload.append hpolls
    have hn : ([SeqPos.readByte .budget] ++ cycles j (failedPollLines .readByte)).length = 1 + 5 * j := by
      simp
      omega
    have hu : u = t₁ := hrun.schedule_eq hn
    have henv : t₁.env = s.env := by rw [hnext.rest]
    obtain ⟨hdone, hdata⟩ := engineStep_received (s := t₁) (hnext.eng ▸ hpending) (henv ▸ hrxs)
    have hseq : (engineStep t₁).seq = t₁.seq := settle_seq 0 t₁
    have hend := readByte_received (onlyTicks_ticks k (engineStep t₁)) (by rw [hseq, hnext.pos])
      (by rw [hseq, hnext.busy hbusy]) (by rw [hseq]; exact (congrArg Seq.op hnext.outside :).trans hop)
      (by rw [hdone.sc, rxDone_rxCompletion]) hdone.pending hdata
    have ht : t = _ := (congrArg (fun w => lines k 4 (engineStep w)) hu).trans (hend.schedule_eq rfl)
    rw [ht, hu, hrun.visits_eq hn, hrun.visits_eq hn]
    refine ⟨hnext.busy hbusy, hnext.pos, ?polls, ?delays, rfl, rfl, rfl, ?answers, ?events⟩
    case polls | delays => simp [count_failedPollLines_readByte]
    case answers => exact congrArg Env.rxs hdone.env
    case events => exact hdone.events.trans (by rw [hnext.rest]; rfl)

/-- Settles O47: the budget's polls, each with its delay, and the last line. -/
theorem readByteTimesOutAfterItsBudget : Obligations.ReadByteTimesOutAfterItsBudget := by
  intro k s hbusy hop hpos hticks hack hnack r n t
  have hcall := calls_readByte
  have hothers := onlyTicks_ticks k s
  have hwait : rxDone (statusCode s) = false := by simp [rxDone_statusCode, hack, hnack]
  obtain ⟨t₀, hstart, hload, hbudget⟩ := readByteCore_loadsBudget hcall hothers hpos hbusy
  obtain ⟨t₁, hfirst, hpolls, hspent⟩ := hstart.fails hcall hothers hbusy hticks hwait r 0
    (by rw [hbudget, Nat.zero_add])
  obtain ⟨t₂, hlast, hdelay, hexhausted, -⟩ := hfirst.delays hcall hothers hbusy hticks hwait
  obtain ⟨m, hgive⟩ := hcall.giveUp retryLines_readByteCore (hlast.onlyTicks hothers) hlast.pos (hlast.busy hbusy)
    (hexhausted.trans (spendAttempt_last hspent).1)
  have hend := runs_readByteEnd (s := { t₂ with tmr := m }) .noAck (hlast.onlyTicks hothers) (hlast.busy hbusy)
    ((congrArg Seq.op hlast.outside :).trans hop)
  have hbefore := (hload.append hpolls).append hdelay
  have hall := hbefore.append hgive
  have hbeforeLength : ([SeqPos.readByte .budget] ++ cycles r (failedPollLines .readByte) ++
      delayedPollLines .readByte).length = n - 1 := by
    simp [n]
    omega
  have hallLength : ([SeqPos.readByte .budget] ++ cycles r (failedPollLines .readByte) ++
      delayedPollLines .readByte ++ [SeqPos.readByte .checkExhausted]).length = n := by
    simp [n]
    omega
  have hdelayed : lines k (n - 1) s = t₂ := hbefore.schedule_eq hbeforeLength
  have hreturned : lines k n s = keepOutcome .readByteEnd .noAck { t₂ with tmr := m } := hall.schedule_eq hallLength
  have hended : t = _ := (hall.append hend).schedule_eq (by rw [List.length_append, hallLength]; rfl)
  rw [hdelayed, hreturned, hended, hall.visits_eq hallLength, hall.visits_eq hallLength]
  refine ⟨?polls, ?delays, hlast.busy hbusy, hlast.pos, hlast.busy hbusy, rfl, rfl, rfl, ?result, hlast.eng, ?events,
    ?faults⟩
  case polls | delays => simp [count_failedPollLines_readByte, delayedPollLines]
  case events | faults => rw [hlast.rest]
  case result =>
    rw [hlast.rest]
    rfl

end Sys2Proof.Machine
end

section
/-! The lines of `write` and of `read` that begin a transaction and that end it (45_transactions.md R310 to R313). -/

namespace Sys2Proof.Machine

theorem seqLine_write {checks : Bool} {l : WriteLine} {s : State} (hpos : s.seq.pos = .write l) :
    seqLine checks s = writeOpLine checks l s := by
  simp only [seqLine, hpos]

theorem seqLine_read {checks : Bool} {l : ReadLine} {s : State} (hpos : s.seq.pos = .read l) :
    seqLine checks s = readOpLine l s := by
  simp only [seqLine, hpos]

/-! ### The closing commands -/


theorem seqLine_close {checks : Bool} {s : State} (hpos : s.seq.pos = .write .close ∨ s.seq.pos = .read .close) :
    seqLine checks s = closeOk s := by
  rcases hpos with hpos | hpos
  · exact seqLine_write hpos
  · exact seqLine_read hpos

theorem seqLine_failed {checks : Bool} {s : State} (hfailed : s.seq.o ≠ .ok)
    (hpos : s.seq.pos = .write .checkStart ∧ checks = true ∨ s.seq.pos = .write .checkByte ∨
      s.seq.pos = .read .checkStart ∨ s.seq.pos = .read .checkByte) :
    seqLine checks s = closeFailed s := by
  have hne : (s.seq.o != .ok) = true := bne_iff_ne.mpr hfailed
  rcases hpos with ⟨hpos, rfl⟩ | hpos | hpos | hpos
  · exact (seqLine_write hpos).trans (if_pos hne)
  · exact (seqLine_write hpos).trans (if_pos hne)
  · exact (seqLine_read hpos).trans (if_pos hne)
  · exact (seqLine_read hpos).trans (if_pos hne)

/-- `write` and `read` are operations that return an outcome (40_register_interface.md R154). -/
theorem finish_transaction {s : State} (hop : s.seq.op = 0x7#4 ∨ s.seq.op = 0x8#4) (o : TransferOutcome) :
    finish o s = { s with seq := { s.seq with outcome := o, busy := false, pos := .none } } := by
  have hreturns : returnsOutcome s.seq.op = true := by
    rcases hop with hop | hop <;> rw [hop] <;> rfl
  rw [finish_eq, if_pos hreturns]

theorem closeFailed_seq {s : State} (hop : s.seq.op = 0x7#4 ∨ s.seq.op = 0x8#4) :
    (closeFailed s).seq = { s.seq with outcome := s.seq.o, busy := false, pos := .none } := by
  rw [closeFailed, finish_transaction (by rwa [writeCtrl_seq]), writeCtrl_seq]

/-- Settles O50: the STOP byte or the RESTART arm, with and without a pending command, and the end. -/
theorem transactionsEndWithOneClosingCommand : Obligations.TransactionsEndWithOneClosingCommand := by
  intro s hbusy hop ended stopped closing failing
  have hstop : cmdStop = ctrlByte true false false true false true 0#2 := rfl
  have harm : cmdRestartArm = ctrlByte false false true false false true 0#2 := rfl
  have hclose (h : closing) : sequencerStep true s = closeOk s :=
    (sequencerStep_busy true s hbusy).trans (seqLine_close h)
  have hfail (h : failing) : sequencerStep true s = closeFailed s :=
    (sequencerStep_busy true s hbusy).trans (seqLine_failed h.1 (by simpa using h.2))
  refine ⟨?free, ?pending⟩
  case free =>
    intro hnone p
    have hstopped (o : TransferOutcome) : finish o (writeCtrl cmdStop s) = ended (stopped s.eng.data) p [] o := by
      rw [writeCtrl_cmdStop, hstop, ctrlStop_free_eq _ _ _ _ _ _ _ hnone, finish_transaction (by exact hop)]
      by_cases hidle : s.eng.phase = .idle <;> simp [ended, stopped, p, hidle, hnone]
    refine ⟨fun h hr => ?_, fun h hr => ?_, fun h => ?_⟩
    · rw [hclose h, closeOk, hr]
      exact hstopped .ok
    · rw [hclose h, closeOk, hr, if_pos rfl, writeCtrl_cmdRestartArm, harm, ctrlLatch_free _ _ _ _ _ _ _ hnone,
        finish_transaction (by exact hop)]
      simp [ended]
    · rw [hfail h]
      exact hstopped s.seq.o
  case pending =>
    intro c hpending d
    have hstopped (o : TransferOutcome) :
        finish o (writeCtrl cmdStop s) = ended (stopped d) [.abort c, .stop] [] o := by
      rw [writeCtrl_cmdStop, hstop, ctrlStop_pending_eq _ _ _ _ _ _ _ hpending, finish_transaction (by exact hop)]
      simp [ended, stopped, d]
    refine ⟨fun h hr => ?_, fun h hr => ?_, fun h => ?_⟩
    · rw [hclose h, closeOk, hr]
      exact hstopped .ok
    · rw [hclose h, closeOk, hr, if_pos rfl, writeCtrl_cmdRestartArm, ctrlLatch,
        unlessPending_pending _ _ _ _ c hpending, finish_transaction (by exact hop)]
      simp [ended, State.raise, offCtrl, cmdRestartArm]
    · rw [hfail h]
      exact hstopped s.seq.o

/-! ### The address byte and the check of the start -/

/-- Settles O51: the two lines that send the address byte, and the check of the start by its outcome. -/
theorem transactionsSendTheirAddressAndCheckTheStart : Obligations.TransactionsSendTheirAddressAndCheckTheStart := by
  intro s hbusy
  refine ⟨fun checks hnone => ⟨fun hpos => ?writeData, fun hpos => ?readData, fun b hpos hphase hdata => ?launch⟩,
    fun hpos => ⟨?writeUnchecked, fun hok => ?writeOk, fun hop hfailed => ?writeFailed⟩,
    fun checks hpos => ⟨fun hok => ?readOk, fun hop hfailed => ?readFailed⟩⟩
  case writeData =>
    rw [sequencerStep_busy _ _ hbusy, seqLine_write hpos, writeOpLine, startCore, runCall_line, writeData,
      unlessPending_free _ _ _ _ hnone]
    rfl
  case readData =>
    refine ⟨readAddress s.seq.a, BitVec.toNat_add s.seq.a 1#8, ?_⟩
    rw [sequencerStep_busy _ _ hbusy, seqLine_read hpos, readOpLine, startCore, runCall_line, writeData,
      unlessPending_free _ _ _ _ hnone]
    rfl
  case launch =>
    have hlaunch : (writeCtrl cmdTransmit s).eng.pending = some (.addrTx b) := by
      rw [writeCtrl_transmit_free hnone, launchTransfer_addr_holds (by exact hphase) (by exact hdata)]
      rfl
    rw [sequencerStep_busy _ _ hbusy]
    rcases hpos with hpos | hpos
    · rw [seqLine_write hpos]
      exact hlaunch
    · rw [seqLine_read hpos]
      exact hlaunch
  case writeUnchecked =>
    rw [sequencerStep_busy _ _ hbusy, seqLine_write hpos]
    rfl
  case writeOk =>
    rw [sequencerStep_busy _ _ hbusy, seqLine_write hpos, writeOpLine, hok]
    rfl
  case writeFailed =>
    rw [sequencerStep_busy _ _ hbusy, seqLine_failed hfailed (.inl ⟨hpos, rfl⟩), closeFailed_seq (.inl hop)]
    exact ⟨rfl, rfl⟩
  case readOk =>
    rw [sequencerStep_busy _ _ hbusy, seqLine_read hpos, readOpLine, hok]
    rfl
  case readFailed =>
    rw [sequencerStep_busy _ _ hbusy, seqLine_failed hfailed (.inr (.inr (.inl hpos))), closeFailed_seq (.inr hop)]
    exact ⟨rfl, rfl⟩

end Sys2Proof.Machine
end

section
/-! What the byte loops of `write` and of `read` have in common: the lines outside of their calls, what the sequencer
keeps over a loop, and its index (45_transactions.md R310, R311; 10_state.md R45, R46). -/

namespace Sys2Proof.Machine

/-- With nothing pending a line comes after the ticks alone. -/
theorem runs_line (k : Nat) {p : SeqPos} {s : State} (hnone : s.eng.pending = none) (hpos : s.seq.pos = p)
    (hbusy : s.seq.busy = true) :
    Runs (settle k) [p] s (seqLine Config.writeChecksStart { s with tmr := Tmr.tick^[k] s.tmr }) := by
  have htick : settle k s = { s with tmr := Tmr.tick^[k] s.tmr } := (settle_free k s hnone).trans (ticks_eq k s)
  rw [← htick, ← sequencerStep_busy _ _ (by rw [htick, hbusy])]
  exact .cons (by rw [htick, hpos]) (.nil _)

/-- The sequencer but for its line and its locals: what it keeps over the loop of a transaction (10_state.md R45). -/
def Seq.latched (q : Seq) : Seq :=
  { q with pos := .none, c := 0#8, i := 0#16, o := .ok, sc := 0#8, v := 0#8, exhausted := false }

theorem latched_of_outside {q q' : Seq} (h : q'.outside = q.outside) : q'.latched = q.latched :=
  (congrArg Seq.latched h :)

section

variable {q q' : Seq} (h : q'.latched = q.latched)

include h

theorem busy_of_latched : q'.busy = q.busy := (congrArg Seq.busy h :)

theorem length_of_latched : q'.n = q.n := (congrArg Seq.n h :)

theorem base_of_latched : q'.p = q.p := (congrArg Seq.p h :)

end

/-- The `i`-th index of a loop of fewer than 2^16 bytes, compared with its length. -/
theorem index_lt_iff {i : Nat} {n : Half} (hi : i ≤ n.toNat) : BitVec.ofNat 16 i < n ↔ i < n.toNat := by
  rw [BitVec.lt_def, BitVec.toNat_ofNat, Nat.mod_eq_of_lt (by omega)]

/-- The last index of a loop of `n` bytes. -/
theorem index_eq_last_iff {i : Nat} {n : Half} (hi : i < n.toNat) :
    BitVec.ofNat 16 i = n - 1#16 ↔ ¬ i + 1 < n.toNat := by
  rw [← BitVec.toNat_inj, BitVec.toNat_sub, BitVec.toNat_ofNat, BitVec.toNat_ofNat]
  omega

@[simp] theorem settle_result (k : Nat) (s : State) : (settle k s).result = s.result := by
  rcases engineStep_cases (ticks k s) with ⟨-, h⟩ | ⟨c, -, h⟩
  · rw [settle, h, ticks_frame]
  · obtain ⟨-, -, -, hresult, -⟩ := completeCmd_frame c (ticks k s)
    rw [settle, h, setInt_result, setPending_result, hresult, ticks_frame]

end Sys2Proof.Machine
end

section
/-! The byte loop of `write`: the bytes of the buffer in order, each fetched once and sent as often as it is not
acknowledged (45_transactions.md R310, R316; 44_byte_transfer.md R280, R281, R284; 20_memory.md R77, R78). -/

namespace Sys2Proof.Machine

/-! ### The lines of the loop -/

/-- The lines of the call that sends a byte after `j` NACKs. -/
def sendLines (j : Nat) : List SeqPos :=
  [.write (.byte .budget)] ++ (cycles j (failedLines fun l => .write (.byte l)) ++
    ackedLines fun l => .write (.byte l))

/-- The lines of one byte of the loop. -/
def writeByteLines (j : Nat) : List SeqPos :=
  [.write .fetch] ++ sendLines j ++ [.write .checkByte, .write .next]

theorem length_writeByteLines (j : Nat) : (writeByteLines j).length = 8 + 8 * j := by
  simp [writeByteLines, sendLines]
  omega

/-- The byte is fetched once. -/
theorem count_fetch_writeByteLines (j : Nat) : (writeByteLines j).count (.write .fetch) = 1 := by
  have hfailed : (failedLines fun l => .write (.byte l)).count (.write .fetch) = 0 := by decide
  have hacked : (ackedLines fun l => .write (.byte l)).count (.write .fetch) = 0 := by decide
  simp [writeByteLines, sendLines, hfailed, hacked]

/-- Each NACK costs a delay. -/
theorem count_arm_writeByteLines (j : Nat) : (writeByteLines j).count (.write (.byte .arm)) = j := by
  have hfailed : (failedLines fun l => .write (.byte l)).count (.write (.byte .arm)) = 1 := by decide
  have hacked : (ackedLines fun l => .write (.byte l)).count (.write (.byte .arm)) = 0 := by decide
  simp [writeByteLines, sendLines, hfailed, hacked]

theorem callsWriteByte_write :
    CallsWriteByte Seq.v (fun l => .write (.byte l)) (keepOutcome (.write .checkByte)) where
  line _ _ hpos := seqLine_write hpos
  kept _ := rfl

/-- The loop of the `write` that began in `s` has sent `i` bytes: it stands at the next one, or at the close. -/
structure WritesAt (s : State) (i : Nat) (t : State) : Prop where
  pos : t.seq.pos = if BitVec.ofNat 16 i < s.seq.n then .write .fetch else .write .close
  index : t.seq.i = BitVec.ofNat 16 i
  latched : t.seq.latched = s.seq.latched
  cfg : t.cfg = s.cfg
  buf : t.buf = s.buf
  faults : t.faults = s.faults
  phase : t.eng.phase = .mt
  pending : t.eng.pending = none

/-- The events of a byte that is sent after `j` NACKs. -/
def sentEvents (b : Byte) (j : Nat) : List Event := List.replicate j (.tx b .nack) ++ [.tx b .ack]

section Loop

variable {k : Nat} {s t : State} {i : Nat}

theorem WritesAt.busy (h : WritesAt s i t) (hbusy : s.seq.busy = true) : t.seq.busy = true :=
  (busy_of_latched h.latched).trans hbusy

/-- The first line sets the index. -/
theorem write_begins (hbusy : s.seq.busy = true) (hpos : s.seq.pos = .write .index) (hnone : s.eng.pending = none)
    (hphase : s.eng.phase = .mt) :
    ∃ t, WritesAt s 0 t ∧ Runs (settle k) [.write .index] s t ∧ t.events = s.events ∧ t.env = s.env := by
  have hrun := runs_line k hnone hpos hbusy
  rw [seqLine_write (by exact hpos)] at hrun
  refine ⟨_, ?_, hrun, rfl, rfl⟩
  exact ⟨rfl, rfl, rfl, rfl, rfl, rfl, hphase, hnone⟩

/-- The line `fetch` reads the byte of the index from BUF. -/
theorem WritesAt.fetches (h : WritesAt s i t) (hbusy : s.seq.busy = true) (hi : i < s.seq.n.toNat) :
    ∃ m, Runs (settle k) [.write .fetch] t
      { t with
        tmr := m
        seq := { t.seq with
          v := s.memRead (s.seq.p + BitVec.ofNat 16 i)
          pos := .write (.byte .budget) } } := by
  have hpos : t.seq.pos = .write .fetch := by rw [h.pos, if_pos ((index_lt_iff hi.le).mpr hi)]
  have hbyte : t.memRead (bufAddress t.seq.p t.seq.i) = s.memRead (s.seq.p + BitVec.ofNat 16 i) := by
    rw [memRead_of_buf h.buf, bufAddress, h.index, base_of_latched h.latched]
  have hrun := runs_line k h.pending hpos (h.busy hbusy)
  rw [seqLine_write (by exact hpos)] at hrun
  rw [← hbyte]
  exact ⟨_, hrun⟩

/-- The lines after a byte was sent: the test of its outcome, and the loop test with the next index. -/
theorem write_goesOn {u : State} (hbusy : u.seq.busy = true) (hnone : u.eng.pending = none) :
    ∃ m, Runs (settle k) [.write .checkByte, .write .next] (keepOutcome (.write .checkByte) .ok u)
      { u with
        tmr := m
        seq := { u.seq with
          o := .ok
          i := u.seq.i + 1#16
          pos := if u.seq.i + 1#16 < u.seq.n then .write .fetch else .write .close } } := by
  have hcheck := runs_line k (s := keepOutcome (.write .checkByte) .ok u) hnone rfl hbusy
  rw [seqLine_write rfl] at hcheck
  have hnext := runs_line k (s := State.goto (.write .next)
    { keepOutcome (.write .checkByte) .ok u with tmr := Tmr.tick^[k] u.tmr }) hnone rfl hbusy
  rw [seqLine_write rfl] at hnext
  exact ⟨_, hcheck.append hnext⟩

/-- The call for one byte, which is acknowledged after `j` NACKs. -/
theorem write_sendsByte {j : Nat} {zs : List TxAnswer} (hbusy : s.seq.busy = true)
    (hpos : s.seq.pos = .write (.byte .budget)) (hnone : s.eng.pending = none) (hphase : s.eng.phase = .mt)
    (hticks : s.cfg.ticks.toNat ≤ k) (hj : j ≤ s.cfg.retries.toNat)
    (htxs : s.env.txs = List.replicate j .nack ++ .ack :: zs) :
    ∃ u, SendsAt (fun l => .write (.byte l)) s .checkAck u ∧
      Runs (settle k) (sendLines j) s (keepOutcome (.write .checkByte) .ok u) ∧
      u.eng.phase = .mt ∧ u.env.txs = zs ∧ u.events = s.events ++ sentEvents s.seq.v j := by
  have hcall := callsWriteByte_write
  have hfirst : SendsAt (fun l => .write (.byte l)) s .budget s := ⟨hpos, rfl, rfl, rfl, rfl, hnone, nofun⟩
  obtain ⟨t₀, hdata, hload, hprogress⟩ := hfirst.loadsBudget (k := k) hcall hbusy
  obtain ⟨t₁, code, hnext, hnacks, hnacked⟩ := hdata.nacked hcall hbusy hticks j (s.cfg.retries.toNat - j)
    (by rw [hprogress]; exact hphase) (by rw [hprogress, Nat.sub_add_cancel hj]) (by rw [hprogress]; exact htxs)
  obtain ⟨u, hu, hack, hacked⟩ := hnext.acked (k := k) hcall hbusy (by rw [hnacked]) (by rw [hnacked])
  rw [hnacked, hprogress] at hacked
  exact ⟨u, hu, hload.append (hnacks.append hack), congrArg SendProgress.phase hacked,
    congrArg (fun x => x.env.txs) hacked, (congrArg SendProgress.events hacked).trans (List.append_assoc ..)⟩

/-- The lines of one byte, which is acknowledged after `j` NACKs. -/
theorem WritesAt.sends {j : Nat} {zs : List TxAnswer} (h : WritesAt s i t) (hbusy : s.seq.busy = true)
    (hticks : s.cfg.ticks.toNat ≤ k) (hi : i < s.seq.n.toNat) (hj : j ≤ s.cfg.retries.toNat)
    (htxs : t.env.txs = List.replicate j .nack ++ .ack :: zs) :
    ∃ u, WritesAt s (i + 1) u ∧ Runs (settle k) (writeByteLines j) t u ∧ u.env.txs = zs ∧
      u.events = t.events ++ sentEvents (s.memRead (s.seq.p + BitVec.ofNat 16 i)) j := by
  obtain ⟨m, hfetch⟩ := h.fetches (k := k) hbusy hi
  set f : State := { t with
    tmr := m
    seq := { t.seq with v := s.memRead (s.seq.p + BitVec.ofNat 16 i), pos := .write (.byte .budget) } }
  have hf : f.seq.busy = true := h.busy hbusy
  have hcfg : f.cfg = s.cfg := h.cfg
  obtain ⟨u, hu, hsend, hphase, hleft, hevents⟩ := write_sendsByte (s := f) hf rfl h.pending h.phase (hcfg ▸ hticks)
    (hcfg ▸ hj) htxs
  have hlatched : u.seq.latched = s.seq.latched := (latched_of_outside hu.outside).trans h.latched
  have hindex : u.seq.i + 1#16 = BitVec.ofNat 16 (i + 1) := by
    have hkept : u.seq.i = t.seq.i := (congrArg Seq.i hu.outside :)
    rw [hkept, h.index, BitVec.ofNat_add]
  obtain ⟨m', hgo⟩ := write_goesOn (k := k) (hu.busy hf) hu.pending
  rw [hindex, length_of_latched hlatched] at hgo
  refine ⟨_, ?_, (hfetch.append hsend).append hgo, hleft, hevents⟩
  exact ⟨rfl, rfl, hlatched, hu.cfg.trans h.cfg, hu.buf.trans h.buf, hu.faults.trans h.faults, hphase, hu.pending⟩

/-- The lines of the bytes from the `i`-th on. -/
theorem WritesAt.sendsAll {js : List Nat} {xs : List TxAnswer} (h : WritesAt s i t) (hbusy : s.seq.busy = true)
    (hticks : s.cfg.ticks.toNat ≤ k) (hlength : i + js.length = s.seq.n.toNat)
    (hjs : ∀ j ∈ js, j ≤ s.cfg.retries.toNat)
    (htxs : t.env.txs = js.flatMap (fun j => List.replicate j .nack ++ [.ack]) ++ xs) :
    ∃ u, WritesAt s s.seq.n.toNat u ∧ Runs (settle k) (js.flatMap writeByteLines) t u ∧ u.env.txs = xs ∧
      u.events = t.events ++
        (js.zipIdx i).flatMap fun x => sentEvents (s.memRead (s.seq.p + BitVec.ofNat 16 x.2)) x.1 := by
  induction js generalizing i t with
  | nil =>
    obtain rfl : i = s.seq.n.toNat := hlength
    exact ⟨t, h, .nil t, htxs, (List.append_nil _).symm⟩
  | cons j js ih =>
    obtain ⟨hj, hjs⟩ := List.forall_mem_cons.mp hjs
    rw [List.length_cons] at hlength
    obtain ⟨u, hu, hsend, hleft, hsent⟩ := h.sends hbusy hticks (by omega) hj
      (zs := js.flatMap (fun j => List.replicate j .nack ++ [.ack]) ++ xs) (by simpa using htxs)
    obtain ⟨v, hv, hrest, hend, hevents⟩ := ih hu (by omega) hjs hleft
    refine ⟨v, hv, hsend.append hrest, hend, ?_⟩
    rw [hevents, hsent, List.zipIdx_cons, List.flatMap_cons, List.append_assoc]

end Loop

/-! ### A byte being sent, and BUF -/

theorem writeData_withBuf (b : Byte) (m : Memory) (s : State) :
    writeData b { s with buf := m } = { writeData b s with buf := m } := by
  dsimp only [writeData, unlessPending]
  split_ifs <;> rfl

theorem launchTransfer_withBuf (v : Byte) (m : Memory) (s : State) :
    launchTransfer v { s with buf := m } = { launchTransfer v s with buf := m } := by
  unfold launchTransfer
  cases hphase : s.eng.phase with
  | addr | mt => cases hdata : s.eng.data <;> rfl
  | mr | idle | mrHold => rfl

theorem writeCtrl_cmdTransmit_withBuf (m : Memory) (s : State) :
    writeCtrl cmdTransmit { s with buf := m } = { writeCtrl cmdTransmit s with buf := m } := by
  rw [writeCtrl_cmdTransmit, writeCtrl_cmdTransmit]
  dsimp only [ctrlTransfer, unlessPending]
  split_ifs
  · rfl
  · exact launchTransfer_withBuf cmdTransmit m (latchRate (storeCtrl cmdTransmit s))

/-- The lines that send a byte do not look at BUF. -/
theorem writeOpLine_byte_withBuf (checks : Bool) (l : ByteLine) (m : Memory) (s : State) :
    writeOpLine checks (.byte l) { s with buf := m } = { writeOpLine checks (.byte l) s with buf := m } := by
  cases l <;> dsimp only [writeOpLine, writeByteCore]
  case budget | spend | arm => rfl
  case data => rw [runCall_line, runCall_line, writeData_withBuf]; rfl
  case transmit => rw [runCall_line, runCall_line, writeCtrl_cmdTransmit_withBuf]; rfl
  case status | checkAck | disarm | checkExhausted => split_ifs <;> rfl

/-- Settles O48: the first line, the bytes in order, and the independence of BUF line by line. -/
theorem writeSendsItsBufferInOrder : Obligations.WriteSendsItsBufferInOrder := by
  refine ⟨fun k js xs s hbusy hpos hnone hphase hticks hlength hjs htxs => ?_, fun checks l m s hpos => ?_⟩
  · intro n t
    obtain ⟨t₀, hfirst, hindex, hevents, henv⟩ := write_begins (k := k) hbusy hpos hnone hphase
    obtain ⟨u, hu, hsend, hleft, hsent⟩ := hfirst.sendsAll hbusy hticks ((Nat.zero_add _).trans hlength) hjs
      (by rw [henv]; exact htxs)
    have hrun := hindex.append hsend
    have hn : ([SeqPos.write .index] ++ js.flatMap writeByteLines).length = n := by
      simp [n, List.length_flatMap, length_writeByteLines]
      omega
    rw [show t = u from hrun.schedule_eq hn, hrun.visits_eq hn, hrun.visits_eq hn]
    refine ⟨?close, hu.phase, hu.faults, hleft, memRead_of_buf hu.buf, ?fetches, ?delays, ?events⟩
    case close => rw [hu.pos, if_neg ((index_lt_iff le_rfl).not.mpr (lt_irrefl _))]
    case fetches => simp [List.count_flatMap, Function.comp_def, count_fetch_writeByteLines, hlength]
    case delays => simp [List.count_flatMap, Function.comp_def, count_arm_writeByteLines]
    case events => rw [hsent, hevents]; rfl
  · cases hbusy : s.seq.busy with
    | false => rw [sequencerStep_idle _ _ (by exact hbusy), sequencerStep_idle _ _ hbusy]
    | true =>
      rw [sequencerStep_busy _ _ (by exact hbusy), sequencerStep_busy _ _ hbusy, seqLine_write (by exact hpos),
        seqLine_write hpos, writeOpLine_byte_withBuf]

end Sys2Proof.Machine
end

section
/-! The byte loop of `read`: the bytes received in order, each stored once, all but the last acknowledged
(45_transactions.md R311, R314, R316; 20_memory.md R77, R78). -/

namespace Sys2Proof.Machine

/-! ### Bytes stored in order -/

/-- The memory with the bytes `vs` from the address `a` on, modulo 2^16 (20_memory.md R77). -/
def Memory.store (m : Memory) (a : Half) : List Byte → Memory
  | [] => m
  | v :: vs => Memory.store (Memory.write m a.toNat v) (a + 1#16) vs

/-- The address of a byte, counted from the byte after the first. -/
theorem address_succ (a : Half) (i : Nat) : a + BitVec.ofNat 16 (i + 1) = a + 1#16 + BitVec.ofNat 16 i := by
  rw [BitVec.add_assoc, ← BitVec.ofNat_add, Nat.add_comm]

theorem Memory.read_store_other {vs : List Byte} {m : Memory} {a b : Half}
    (hb : ∀ i : Nat, i < vs.length → b ≠ a + BitVec.ofNat 16 i) :
    Memory.read (m.store a vs) b.toNat = Memory.read m b.toNat := by
  induction vs generalizing m a with
  | nil => rfl
  | cons v vs ih =>
    have hrest (i : Nat) (hi : i < vs.length) : b ≠ a + 1#16 + BitVec.ofNat 16 i :=
      address_succ a i ▸ hb (i + 1) (Nat.succ_lt_succ hi)
    have hfirst : b ≠ a := by simpa using hb 0 (Nat.succ_pos _)
    rw [Memory.store, ih hrest, Memory.read_write_other _ _ _ _ fun h => hfirst (BitVec.eq_of_toNat_eq h)]

/-- At most 2^16 bytes do not run into each other, so that each is read back. -/
theorem Memory.read_store {vs : List Byte} {m : Memory} {a : Half} {i : Nat} {v : Byte} (hwf : Memory.wf m = true)
    (hlength : vs.length ≤ 2 ^ 16) (hv : vs[i]? = some v) :
    Memory.read (m.store a vs) (a + BitVec.ofNat 16 i).toNat = v := by
  induction vs generalizing m a i with
  | nil => simp at hv
  | cons w vs ih =>
    rw [List.length_cons] at hlength
    cases i with
    | zero =>
      obtain rfl : w = v := by simpa using hv
      have hapart (j : Nat) (hj : j < vs.length) : a ≠ a + 1#16 + BitVec.ofNat 16 j := by
        rw [← address_succ]
        intro h
        have hwrap := congrArg BitVec.toNat h
        rw [BitVec.toNat_add, BitVec.toNat_ofNat] at hwrap
        omega
      rw [BitVec.add_zero, Memory.store, Memory.read_store_other hapart]
      exact Memory.read_write_same m 0 a.toNat w hwf
    | succ i =>
      rw [address_succ, Memory.store]
      exact ih (Memory.write_wf m a.toNat w hwf a.isLt) (by omega) (by simpa using hv)

/-! ### The lines of one byte -/

/-- The lines of a byte that the first poll sees. -/
def readByteLines : List SeqPos :=
  [.read .arm, .read (.poll .budget)] ++ (receivedLines (fun l => .read (.poll l)) ++
    [.read .checkByte, .read .store, .read .next])

theorem callsReadByte_read : Calls readByteCore (fun l => .read (.poll l)) (keepOutcome (.read .checkByte)) :=
  fun _ _ hpos => seqLine_read hpos

/-- In phase MR the byte that arms a receive launches it (43_bus_primitives.md R230; 44_byte_transfer.md R274). -/
theorem writeCtrl_receive {s : State} (ack : Bool) (hnone : s.eng.pending = none) (hphase : s.eng.phase = .mr) :
    writeCtrl (if ack then cmdRecvAck else cmdRecvNack) s =
      launch (.dataRx ack) (latchRate (storeCtrl (if ack then cmdRecvAck else cmdRecvNack) s)) := by
  have htransfer : writeCtrl (if ack then cmdRecvAck else cmdRecvNack) s =
      ctrlTransfer (if ack then cmdRecvAck else cmdRecvNack) s := by
    cases ack with
    | true => exact writeCtrl_cmdRecvAck s
    | false => exact writeCtrl_cmdRecvNack s
  have hack : ackSelected (if ack then cmdRecvAck else cmdRecvNack) = ack := by
    cases ack <;> rfl
  rw [htransfer, ctrlTransfer, unlessPending_free _ _ _ _ hnone, launchTransfer_mr (by exact hphase), hack]

/-- The lines from the one that arms the receive, which completes with the byte `v`, to the poll. -/
theorem read_arms {k : Nat} {ack : Bool} {v : Byte} {xs : List RxAnswer} {t : State} (hbusy : t.seq.busy = true)
    (hpos : t.seq.pos = .read .arm) (hnone : t.eng.pending = none) (hphase : t.eng.phase = .mr)
    (hlast : t.seq.i = t.seq.n - 1#16 ↔ ack = false) (hv : t.env.rxs = .byte v :: xs) :
    ∃ u, Runs (settle k) [.read .arm, .read (.poll .budget)] t u ∧
      CompletedBy (rxCompletion ack v) { t.env with rxs := xs } t u ∧ u.eng.data = .holds v ∧
      u.seq = { t.seq with c := u.seq.c, pos := .read (.poll .poll) } ∧ u.buf = t.buf ∧ u.result = t.result := by
  have harm := runs_line k hnone hpos hbusy
  have hcommand : (if t.seq.i = t.seq.n - 1#16 then cmdRecvNack else cmdRecvAck) =
      if ack then cmdRecvAck else cmdRecvNack := by
    cases ack <;> simp [hlast]
  rw [seqLine_read (by exact hpos), readOpLine, hcommand, writeCtrl_receive ack (by exact hnone) (by exact hphase)]
    at harm
  set a := State.goto (.read (.poll .budget)) (launch (.dataRx ack) (latchRate (storeCtrl
    (if ack then cmdRecvAck else cmdRecvNack) { t with tmr := Tmr.tick^[k] t.tmr })))
  obtain ⟨hdone, hdata⟩ := engineStep_received (s := ticks k a) (ack := ack) (v := v) (xs := xs)
    (by rw [ticks_eng]; rfl) (by rw [ticks_env]; exact hv)
  have hseq : (settle k a).seq = { t.seq with pos := .read (.poll .budget) } := settle_seq k a
  have hbudget := callsReadByte_read.runs (others := settle k) (s := a) (l := .budget) (by rw [hseq])
    (by rw [hseq]; exact hbusy)
  refine ⟨_, harm.append hbudget, ?completed, hdata, ?sequencer, settle_buf k a, settle_result k a⟩
  case completed =>
    exact ⟨hdone.int, hdone.sc, hdone.phase, hdone.pending, hdone.events.trans (by rw [ticks_events]; rfl),
      hdone.faults.trans (by rw [ticks_faults]; rfl), hdone.env.trans (by rw [ticks_env]; rfl)⟩
  case sequencer =>
    exact congrArg (fun q : Seq => { q with c := (settle k a).cfg.retries, pos := .read (.poll .poll) }) hseq

/-- The lines after a byte was received: the test of its outcome, the store, and the loop test with the next index. -/
theorem read_goesOn {k : Nat} {u : State} (hbusy : u.seq.busy = true) (hnone : u.eng.pending = none)
    (hint : u.eng.ctrl.int = true) :
    ∃ m, Runs (settle k) [.read .checkByte, .read .store, .read .next] (keepOutcome (.read .checkByte) .ok u)
      { u with
        tmr := m
        buf := Memory.write u.buf (u.seq.p + u.seq.i).toNat u.seq.v
        seq := { u.seq with
          o := .ok
          i := u.seq.i + 1#16
          pos := if u.seq.i + 1#16 < u.seq.n then .read .arm else .read .close } } := by
  have hcheck := runs_line k (s := keepOutcome (.read .checkByte) .ok u) hnone rfl hbusy
  rw [seqLine_read rfl] at hcheck
  have hstore := runs_line k (s := State.goto (.read .store)
    { keepOutcome (.read .checkByte) .ok u with tmr := Tmr.tick^[k] u.tmr }) hnone rfl hbusy
  rw [seqLine_readStore _ rfl] at hstore
  have hnext := runs_line k (s := State.goto (.read .next) (State.memWrite
    { keepOutcome (.read .store) .ok u with tmr := (Tmr.tick^[k])^[2] u.tmr } (u.seq.p + u.seq.i) u.seq.v))
    hnone rfl hbusy
  rw [seqLine_read rfl, readOpLine, if_pos (by exact hint)] at hnext
  exact ⟨_, hcheck.append (hstore.append hnext)⟩

/-! ### The loop -/

/-- The loop of the `read` that began in `s` has stored `i` bytes: it stands at the next one, or at the close. -/
structure ReadsAt (s : State) (i : Nat) (t : State) : Prop where
  pos : t.seq.pos = if BitVec.ofNat 16 i < s.seq.n then .read .arm else .read .close
  index : t.seq.i = BitVec.ofNat 16 i
  latched : t.seq.latched = s.seq.latched
  result : t.result = s.result
  faults : t.faults = s.faults
  phase : t.eng.phase = if i < s.seq.n.toNat then .mr else .mrHold
  pending : t.eng.pending = none

/-- The events of the received bytes: all but the last are acknowledged. -/
def receivedEvents (vs : List Byte) : List Event :=
  vs.dropLast.map (fun v => Event.rx v .ack) ++ (vs.getLast?.map fun v => Event.rx v .nack).toList

theorem receivedEvents_cons (v : Byte) (vs : List Byte) :
    receivedEvents (v :: vs) = .rx v (if 0 < vs.length then .ack else .nack) :: receivedEvents vs := by
  cases vs with
  | nil => rfl
  | cons w vs => simp [receivedEvents]

section Loop

variable {k : Nat} {s t : State} {i : Nat}

/-- The first line sets the index. -/
theorem read_begins (hbusy : s.seq.busy = true) (hpos : s.seq.pos = .read .index) (hnone : s.eng.pending = none)
    (hphase : s.eng.phase = .mr) (hlength : 0 < s.seq.n.toNat) :
    ∃ t, ReadsAt s 0 t ∧ Runs (settle k) [.read .index] s t ∧ t.events = s.events ∧ t.env = s.env ∧
      t.buf = s.buf := by
  have hrun := runs_line k hnone hpos hbusy
  rw [seqLine_read (by exact hpos)] at hrun
  refine ⟨_, ?_, hrun, rfl, rfl, rfl⟩
  exact ⟨rfl, rfl, rfl, rfl, rfl, hphase.trans (if_pos hlength).symm, hnone⟩

/-- The lines of one byte. -/
theorem ReadsAt.receives {v : Byte} {xs : List RxAnswer} (h : ReadsAt s i t) (hbusy : s.seq.busy = true)
    (hi : i < s.seq.n.toNat) (hv : t.env.rxs = .byte v :: xs) :
    ∃ u, ReadsAt s (i + 1) u ∧ Runs (settle k) readByteLines t u ∧ u.env.rxs = xs ∧
      u.buf = Memory.write t.buf (s.seq.p + BitVec.ofNat 16 i).toNat v ∧
      u.events = t.events ++ [.rx v (if i + 1 < s.seq.n.toNat then .ack else .nack)] := by
  have hpos : t.seq.pos = .read .arm := by rw [h.pos, if_pos ((index_lt_iff hi.le).mpr hi)]
  have hlast : t.seq.i = t.seq.n - 1#16 ↔ decide (i + 1 < s.seq.n.toNat) = false := by
    rw [h.index, length_of_latched h.latched, index_eq_last_iff hi, decide_eq_false_iff_not]
  obtain ⟨u, harm, hdone, hdata, hseq, hbuf, hresult⟩ := read_arms (k := k) ((busy_of_latched h.latched).trans hbusy)
    hpos h.pending (h.phase.trans (if_pos hi)) hlast hv
  have hlatched : u.seq.latched = s.seq.latched := (congrArg Seq.latched hseq).trans h.latched
  have hu : u.seq.busy = true := (busy_of_latched hlatched).trans hbusy
  have hpoll := readByteCore_received (k := k) callsReadByte_read (onlyTicks_settle k hdone.pending)
    (by rw [hseq]) hu (by rw [hdone.sc, rxDone_rxCompletion]) hdone.pending hdata
  set r : State := { u with
    tmr := (Tmr.tick^[k])^[3] u.tmr
    seq := { u.seq with sc := statusCode u, v := v, pos := .read (.poll .returnOk) } }
  have hindex : r.seq.i = BitVec.ofNat 16 i := (congrArg Seq.i hseq).trans h.index
  have hbase : r.seq.p = s.seq.p := base_of_latched hlatched
  have hlength : r.seq.n = s.seq.n := length_of_latched hlatched
  obtain ⟨m, hgo⟩ := read_goesOn (k := k) (u := r) hu hdone.pending hdone.int
  rw [hindex, hbase, hlength, ← BitVec.ofNat_add] at hgo
  refine ⟨_, ?stored, harm.append (hpoll.append hgo), congrArg Env.rxs hdone.env, ?buffer, ?event⟩
  case stored =>
    refine ⟨rfl, rfl, hlatched, hresult.trans h.result, hdone.faults.trans h.faults, ?_, hdone.pending⟩
    simpa [rxCompletion] using hdone.phase
  case buffer => exact congrArg (Memory.write · _ v) hbuf
  case event => simpa [rxCompletion] using hdone.events

/-- The lines of the bytes from the `i`-th on. -/
theorem ReadsAt.receivesAll {vs : List Byte} {xs : List RxAnswer} (h : ReadsAt s i t) (hbusy : s.seq.busy = true)
    (hlength : i + vs.length = s.seq.n.toNat) (hv : t.env.rxs = vs.map RxAnswer.byte ++ xs) :
    ∃ u, ReadsAt s s.seq.n.toNat u ∧ Runs (settle k) (cycles vs.length readByteLines) t u ∧
      u.buf = t.buf.store (s.seq.p + BitVec.ofNat 16 i) vs ∧ u.events = t.events ++ receivedEvents vs := by
  induction vs generalizing i t with
  | nil =>
    obtain rfl : i = s.seq.n.toNat := hlength
    exact ⟨t, h, .nil t, rfl, (List.append_nil _).symm⟩
  | cons v vs ih =>
    rw [List.length_cons] at hlength
    obtain ⟨u, hu, hreceive, hleft, hbuf, hevent⟩ := h.receives (k := k) hbusy (by omega) hv
    obtain ⟨w, hw, hrest, hstored, hevents⟩ := ih hu (by omega) hleft
    refine ⟨w, hw, hreceive.append hrest, ?_, ?_⟩
    · rw [hstored, hbuf, Memory.store, BitVec.ofNat_add, ← BitVec.add_assoc]
    · have hmore : i + 1 < s.seq.n.toNat ↔ 0 < vs.length := by omega
      simp only [hevents, hevent, receivedEvents_cons, hmore, List.append_assoc, List.singleton_append]

end Loop

/-- Settles O49: the first line, the bytes in order, and the memory that they leave. -/
theorem readStoresItsBytesAndNacksTheLast : Obligations.ReadStoresItsBytesAndNacksTheLast := by
  intro k vs xs s hvs hlength hbusy hpos hnone hphase hwf hrxs t
  have hfew : vs.length < 2 ^ 16 := hlength ▸ s.seq.n.isLt
  obtain ⟨t₀, hfirst, hindex, hevents, henv, hbuf⟩ := read_begins (k := k) hbusy hpos hnone hphase
    (hlength ▸ List.length_pos_iff.mpr hvs)
  obtain ⟨u, hu, hreceive, hstored, hreceived⟩ := hfirst.receivesAll (k := k) hbusy ((Nat.zero_add _).trans hlength)
    (by rw [henv]; exact hrxs)
  rw [hbuf, BitVec.add_zero] at hstored
  have hn : ([SeqPos.read .index] ++ cycles vs.length readByteLines).length = 1 + 8 * vs.length := by
    simp [readByteLines, receivedLines]
    omega
  rw [show t = u from (hindex.append hreceive).schedule_eq hn]
  refine ⟨?close, ?hold, hu.faults, hu.result, fun i v hv => ?same, fun a ha => ?other, ?events⟩
  case close => rw [hu.pos, if_neg ((index_lt_iff le_rfl).not.mpr (lt_irrefl _))]
  case hold => rw [hu.phase, if_neg (lt_irrefl _)]
  case same =>
    rw [State.memRead, hstored]
    exact Memory.read_store hwf hfew.le hv
  case other =>
    rw [State.memRead, hstored]
    exact Memory.read_store_other ha
  case events => rw [hreceived, hevents, receivedEvents, List.append_assoc]

end Sys2Proof.Machine
end

section
/-! The faults of the block are recorded and stop nothing, and an access refused by the busy check disturbs no operation
(60_exceptions.md R340, R344, R348, R349). -/

namespace Sys2Proof.Machine

/-- Every access of the host is carried out, ignored or refused, each with a next state. -/
theorem exec_answers (i : Instr) (s : State) : ∃ t, exec i s = .next t := by
  rcases exec_cases i s with ⟨-, r, hread, -⟩ | ⟨-, f, -, hwrite⟩
  · exact ⟨_, hread⟩
  · exact ⟨_, hwrite⟩

/-- Settles O6: the host's access answers, and the move of each other agent is a function of the state. -/
theorem everyStepAnswersANextState : Obligations.EveryStepAnswersANextState := by
  intro s
  rw [step_of_turn]
  cases s.turn with
  | host => exact exec_answers _ _
  | sequencer | engine | timer | reset | bufWrite a v => exact ⟨_, rfl⟩

/-- Settles O30: a read touches the port, the latch and the draws; a write is refused, which sets ERR and records the
fault. -/
theorem hostCannotDisturbAnOperation : Obligations.HostCannotDisturbAnOperation := by
  intro i s t hbusy hexec
  rcases exec_cases i s with ⟨-, r, hread, hstate⟩ | ⟨-, f, -, hwrite⟩
  · obtain rfl : hostRead r = t := Host.Outcome.next.inj (hread.symm.trans hexec)
    rcases hstate with hstate | hstate | ⟨-, hstate⟩ <;> simp [hostRead, hstate]
  · rw [hostWrite_busy _ _ f s hbusy] at hwrite
    obtain rfl : s.raise .hostWriteBusy _ _ = t := Host.Outcome.next.inj (hwrite.symm.trans hexec)
    exact ⟨rfl, rfl, rfl, rfl, rfl, rfl, rfl⟩

end Sys2Proof.Machine
end

section
/-! The reset event restores the block, gives up the bus and keeps the records and BUF (70_reset_and_hazards.md R370;
10_state.md R62). -/

namespace Sys2Proof.Machine

/-- A block that holds no bus and waits for none has none to give up. -/
theorem resetEvent_events_of_rest {s : State} (hphase : s.eng.phase = .idle) (hnone : s.eng.pending = none) :
    (resetEvent s).events = s.events := by
  simp [resetEvent, hphase, hnone]

/-- A bus that is held or asked for is released. -/
theorem resetEvent_events_of_busy {s : State} (h : s.eng.phase ≠ .idle ∨ s.eng.pending ≠ none) :
    (resetEvent s).events = s.events ++ [.release] := by
  rw [← Option.isSome_iff_ne_none] at h
  simp [resetEvent, h]

/-- Settles O60: the registers and the sequencer are those of `State.reset`, the fault list and BUF those of `s`, and
the history is that of a block at rest or of a busy one. -/
theorem resetEventRestoresTheBlock : Obligations.ResetEventRestoresTheBlock := by
  intro s
  have hseq : (resetEvent s).seq = Seq.reset := rfl
  have hbuf : (resetEvent s).buf = s.buf := rfl
  rw [hseq]
  exact ⟨rfl, rfl, rfl, rfl, rfl, rfl, rfl, rfl, rfl, rfl, rfl, rfl, rfl, rfl, rfl, rfl, memRead_of_buf hbuf,
    fun ⟨hphase, hnone⟩ => resetEvent_events_of_rest hphase hnone, resetEvent_events_of_busy⟩

end Sys2Proof.Machine
end
